-- ==== Sys2Proof/Word.lean ====
section
/-! DEFINITION. Bytes, lane and link numbers, and the two fixed banks: one item for each of six lanes, one for each of
eight links or tariff classes. The part's numbers are whole numbers (00_scope.md "Integer arithmetic"), so they are `Nat`;
a byte on a link is a bit vector. -/

namespace Sys2Proof

/-- One byte on a link (R170). -/
abbrev Byte := BitVec 8

/-- A lane, 0 to 5 (00_scope.md "Lane"). -/
abbrev LaneNo := Fin 6

/-- A link, 0 to 7 (R169). -/
abbrev LinkNo := Fin 8

/-- The top of a count (00_scope.md "Counts"). -/
def countTop : Nat := 4294967295

/-- Adding to a count that saturates (00_scope.md "Counts"). -/
def satAdd (n k : Nat) : Nat := min (n + k) countTop

/-- One item for each of the six lanes. -/
structure Six (α : Type) where
  l0 : α
  l1 : α
  l2 : α
  l3 : α
  l4 : α
  l5 : α
  deriving DecidableEq, Repr

/-- One item for each of the eight links, or of the eight tariff classes. -/
structure Eight (α : Type) where
  e0 : α
  e1 : α
  e2 : α
  e3 : α
  e4 : α
  e5 : α
  e6 : α
  e7 : α
  deriving DecidableEq, Repr

/-- The six lanes in ascending order. -/
def allLanes : List LaneNo := [0, 1, 2, 3, 4, 5]

/-- The eight links in ascending order. -/
def allLinks : List LinkNo := [0, 1, 2, 3, 4, 5, 6, 7]

def Six.get {α : Type} (b : Six α) (i : LaneNo) : α :=
  match i.val with
  | 0 => b.l0
  | 1 => b.l1
  | 2 => b.l2
  | 3 => b.l3
  | 4 => b.l4
  | _ => b.l5

def Six.set {α : Type} (b : Six α) (i : LaneNo) (x : α) : Six α :=
  match i.val with
  | 0 => { b with l0 := x }
  | 1 => { b with l1 := x }
  | 2 => { b with l2 := x }
  | 3 => { b with l3 := x }
  | 4 => { b with l4 := x }
  | _ => { b with l5 := x }

def Six.map {α β : Type} (f : α → β) (b : Six α) : Six β :=
  ⟨f b.l0, f b.l1, f b.l2, f b.l3, f b.l4, f b.l5⟩

def Six.toList {α : Type} (b : Six α) : List α := [b.l0, b.l1, b.l2, b.l3, b.l4, b.l5]

/-- The same item six times. -/
def Six.all {α : Type} (x : α) : Six α := ⟨x, x, x, x, x, x⟩

def Eight.get {α : Type} (b : Eight α) (i : Fin 8) : α :=
  match i.val with
  | 0 => b.e0
  | 1 => b.e1
  | 2 => b.e2
  | 3 => b.e3
  | 4 => b.e4
  | 5 => b.e5
  | 6 => b.e6
  | _ => b.e7

def Eight.set {α : Type} (b : Eight α) (i : Fin 8) (x : α) : Eight α :=
  match i.val with
  | 0 => { b with e0 := x }
  | 1 => { b with e1 := x }
  | 2 => { b with e2 := x }
  | 3 => { b with e3 := x }
  | 4 => { b with e4 := x }
  | 5 => { b with e5 := x }
  | 6 => { b with e6 := x }
  | _ => { b with e7 := x }

def Eight.map {α β : Type} (f : α → β) (b : Eight α) : Eight β :=
  ⟨f b.e0, f b.e1, f b.e2, f b.e3, f b.e4, f b.e5, f b.e6, f b.e7⟩

/-- The same item eight times. -/
def Eight.all {α : Type} (x : α) : Eight α := ⟨x, x, x, x, x, x, x, x⟩

end Sys2Proof
end

