-- ==== Sys2Proof/Config.lean ====
section
/-! DEFINITION. What the manual fixes for every LG-6 (the sizes of its stores) and the values it leaves open. -/

namespace Sys2Proof.Config

/-- R1: the Pass Table holds at most this many records. -/
def tableSize : Nat := 16384

/-- R21: the entries of the Day-Use Pool. -/
def poolSize : Nat := 131072

/-- R157: the records the Journal ring holds at most. -/
def ringSize : Nat := 1024

/-- R57: the credits a lane's queue holds at most. -/
def queueSize : Nat := 2

/-- R130: the intervals the history holds at most. -/
def historySize : Nat := 4

/-- R170: the longest frame body. -/
def bodyTop : Nat := 240

/-- R175: the answer data one segment carries at most. -/
def segmentSize : Nat := 238

/-- R172: the frame gap, in ms. -/
def frameGap : Nat := 10

/-- R42: the milliseconds of a day. -/
def dayMs : Nat := 86400000

/-- R157: sequence numbers wrap at this. -/
def seqTop : Nat := 4294967296

/-- DESIGN CHOICE, log 22. R177: an answer is "preceded by at most one filler byte" on the office link; whether the n-th
answer that could have one has it is left open. A free value: it has no body, so nothing can be proved of it. Safe. -/
opaque fillerFirst : Nat → Bool

/-- DEDUCED, log 16. The bytes of READ LANE data after the fields of R99: the worked sequence of chapter 10 has 254 data
bytes, and these fields, with the full queue by which R175 reaches two segments, take 165. -/
def laneReportRest : Nat := 89

/-- DESIGN CHOICE, log 16. The n-th of those bytes after the fields given: no rule says what it holds. A free value: it has
no body, so nothing can be proved of it. Safe. -/
opaque laneReportByte : List Byte → Nat → Byte

/-- DESIGN CHOICE, log 31. R170 gives a duration without a stated range 4 bytes; what is sent of a longer one is left open. A
free value: it has no body, so nothing can be proved of it. Safe. -/
opaque longDuration : Nat → Nat

end Sys2Proof.Config
end

