-- ==== Sys2Proof/Syntax.lean ====
section
/-! DEFINITION. The commands the part takes: one constructor of `Instr` for each row of spec/opcode_table.json, with the
row's operands. A request row is the frame as taken on a link: the link, the frame's tag and the fields of its body
(R178), as the bytes carry them. An event row carries the lane or the link it happens at. -/

namespace Sys2Proof

/-- The role of a link (R169). -/
inductive Role where
  | lane
  | office
  | console
  deriving DecidableEq, Repr

/-- The eleven event levels, in the order of the table of R162. -/
structure Levels where
  passage : Nat
  backout : Nat
  creditEnded : Nat
  laneReady : Nat
  untaggedRider : Nat
  beamBlocked : Nat
  linkSilent : Nat
  laneFault : Nat
  carrierRegained : Nat
  dayState : Nat
  carrierLost : Nat
  deriving DecidableEq, Repr

/-- The six fields of a tariff class record (R37). -/
structure Tariff where
  /-- Day rate R. -/
  rate : Nat
  /-- Half-day minute. -/
  halfMinute : Nat
  /-- Refund fraction B, in basis points. -/
  fraction : Nat
  /-- Handling fee E. -/
  fee : Nat
  /-- Rounding quantum Q. -/
  quantum : Nat
  /-- Passback hold, in minutes. -/
  hold : Nat
  deriving DecidableEq, Repr

/-- The nine settings of a lane (R76). -/
structure LaneConfig where
  settleTime : Nat
  unlockWidth : Nat
  creditLife : Nat
  silenceLimit : Nat
  passageLimit : Nat
  brokenLevel : Nat
  clearLevel : Nat
  faultLevel : Nat
  blockedLimit : Nat
  deriving DecidableEq, Repr

/-- The five pacing settings (R125). -/
structure PacingSettings where
  intervalMin : Nat
  intervalMax : Nat
  nominal : Nat
  cutoffPercent : Nat
  leadOffset : Nat
  deriving DecidableEq, Repr

/-- The commands. -/
inductive Instr where
  /-- PRESENT (R53, R55). -/
  | present (link : LinkNo) (tag pass check : Nat)
  /-- LANE STATUS (R100). -/
  | laneStatus (link : LinkNo) (tag : Nat)
  /-- HELLO (R178). -/
  | hello (link : LinkNo) (tag : Nat)
  /-- READ EVENTS (R167). -/
  | readEvents (link : LinkNo) (tag : Nat)
  /-- SET MASK (R165). -/
  | setMask (link : LinkNo) (tag mask : Nat)
  /-- SET LEVELS (R163). -/
  | setLevels (link : LinkNo) (tag : Nat) (levels : Levels)
  /-- READ COUNTS (R122): the selector is a lane, or 255 for ALL. -/
  | readCounts (link : LinkNo) (tag selector : Nat)
  /-- READ JOURNAL (R161). -/
  | readJournal (link : LinkNo) (tag start count : Nat)
  /-- LOAD PASS (R11). -/
  | loadPass (link : LinkNo) (tag number check cls days paid firstDay lastDay : Nat)
  /-- AMEND PASS (R12, R13): `presence` is the presence byte of R178. -/
  | amendPass (link : LinkNo) (tag number presence lastDay days paid cls check : Nat)
  /-- BLOCK PASS (R14, R15). -/
  | blockPass (link : LinkNo) (tag number : Nat)
  /-- UNBLOCK PASS (R16). -/
  | unblockPass (link : LinkNo) (tag number : Nat)
  /-- PURGE PASS (R17). -/
  | purgePass (link : LinkNo) (tag number : Nat)
  /-- READ PASS (R18). -/
  | readPass (link : LinkNo) (tag number : Nat)
  /-- MERGE USE (R30): kind 0 is FULL, 1 is HALF (R178). -/
  | mergeUse (link : LinkNo) (tag number day kind : Nat)
  /-- QUOTE REFUND (R141). -/
  | quoteRefund (link : LinkNo) (tag number : Nat)
  /-- SETTLE REFUND (R148). -/
  | settleRefund (link : LinkNo) (tag number generation : Nat)
  /-- SET TARIFF (R38). -/
  | setTariff (link : LinkNo) (tag cls : Nat) (record : Tariff)
  /-- READ TARIFF (R39). -/
  | readTariff (link : LinkNo) (tag cls : Nat)
  /-- SET CLOCK (R41). -/
  | setClock (link : LinkNo) (tag time : Nat)
  /-- OPEN DAY (R45). -/
  | openDay (link : LinkNo) (tag day : Nat)
  /-- CLOSE DAY (R47). -/
  | closeDay (link : LinkNo) (tag : Nat)
  /-- READ DAY (R51). -/
  | readDay (link : LinkNo) (tag : Nat)
  /-- READ START (R184). -/
  | readStart (link : LinkNo) (tag : Nat)
  /-- CLEAR ALL (R178). -/
  | clearAll (link : LinkNo) (tag : Nat)
  /-- SET LIFT (R127): 0 is RUNNING, 1 is STOPPED (R178). -/
  | setLift (link : LinkNo) (tag state : Nat)
  /-- SET SEATS (R133). -/
  | setSeats (link : LinkNo) (tag seats : Nat)
  /-- SET PACING (R126): mode 0 is PACED, 1 is FREE (R178). -/
  | setPacing (link : LinkNo) (tag mode : Nat) (settings : PacingSettings)
  /-- READ LIFT (R140). -/
  | readLift (link : LinkNo) (tag : Nat)
  /-- OPEN LANE (R81). -/
  | openLane (link : LinkNo) (tag lane : Nat)
  /-- CLOSE LANE (R83). -/
  | closeLane (link : LinkNo) (tag lane : Nat)
  /-- CLEAR LANE (R96). -/
  | clearLane (link : LinkNo) (tag lane : Nat)
  /-- CONFIGURE LANE (R78). -/
  | configureLane (link : LinkNo) (tag lane : Nat) (config : LaneConfig)
  /-- READ LANE (R99). -/
  | readLane (link : LinkNo) (tag lane : Nat)
  /-- A good frame whose code is not in R178 (R173). -/
  | unknownRequest (link : LinkNo) (tag code : Nat)
  /-- A completed frame fails a check of R172. -/
  | frameDiscarded (link : LinkNo)
  /-- 10 ms pass without a byte on a UART link (R172). -/
  | frameGapExpiry (link : LinkNo)
  /-- A UART byte with a bad stop bit (R172). -/
  | byteError (link : LinkNo)
  /-- The office link's chip select is released (R177). -/
  | chipSelectRelease
  /-- The first queued answer begins to leave the link (R176, R177). -/
  | answerSendBegin (link : LinkNo)
  /-- The last byte of the first queued answer leaves the link (R174). -/
  | answerSent (link : LinkNo)
  /-- The HOME switch becomes inactive (R86). -/
  | rotorLeave (lane : LaneNo)
  /-- The MID switch becomes active (R87). -/
  | mid (lane : LaneNo)
  /-- The HOME switch becomes active (R88). -/
  | returnToHome (lane : LaneNo)
  /-- A beam sample, 0 to 4,095 (R90). -/
  | beamSample (lane : LaneNo) (level : Nat)
  /-- A rising edge of the carrier sensor (R129). -/
  | carrierEdge
  /-- The settle timer expires, the HOME switch reading as given (R82; log 9). -/
  | settleExpiry (lane : LaneNo) (homeActive : Bool)
  /-- The credit-life timer of the credit with this number expires (R113). -/
  | creditLifeExpiry (lane : LaneNo) (credit : Nat)
  /-- The head credit's earliest unlock time comes (R92). -/
  | unlockStart (lane : LaneNo)
  /-- The head credit's unlock end comes (R93). -/
  | unlockEnd (lane : LaneNo)
  /-- The passage limit timer expires (R89). -/
  | passageLimitExpiry (lane : LaneNo)
  /-- The silence timer expires (R98). -/
  | silenceExpiry (lane : LaneNo)
  /-- The beam blocked timer expires (R91). -/
  | beamBlockedExpiry (lane : LaneNo)
  /-- The lost watch expires (R131). -/
  | lostWatchExpiry
  /-- Power is applied with RETAIN_OK as given (R182). -/
  | powerUp (retainOk : Bool)
  /-- RESET is asserted (R182). -/
  | resetAsserted
  /-- RESET is released (R182). -/
  | resetReleased
  /-- Power is lost (R182). -/
  | powerLoss
  /-- The last byte of CLEAR ALL's answer leaves the office link, and its cold start is taken (R178, R183). -/
  | clearAllStart
  /-- A byte reaches a link's receiver; on the office link one byte is clocked out with it (R172, R177). -/
  | byteReceived (link : LinkNo) (byte : Byte)
  deriving DecidableEq, Repr

end Sys2Proof
end

