-- ==== Sys2Proof/WellFormed.lean ====
section
/-! DEFINITION. Which commands can reach the part: every operand fits the width its body field has (R170, R178), a beam
sample is a 12-bit value (00_scope.md "Beam sample"), the code of an UNKNOWN_REQUEST is none of R178, and only a UART link
has a frame gap or a byte error (R172). -/

namespace Sys2Proof

/-- The request codes of R178. -/
def isRequestCode (code : Nat) : Bool :=
  (1 ≤ code && code ≤ 8) || (16 ≤ code && code ≤ 32) || (48 ≤ code && code ≤ 56)

def fits8 (n : Nat) : Bool := n < 256
def fits16 (n : Nat) : Bool := n < 65536
def fits32 (n : Nat) : Bool := n < 4294967296

def Levels.wf (l : Levels) : Bool :=
  fits8 l.passage && fits8 l.backout && fits8 l.creditEnded && fits8 l.laneReady && fits8 l.untaggedRider &&
    fits8 l.beamBlocked && fits8 l.linkSilent && fits8 l.laneFault && fits8 l.carrierRegained && fits8 l.dayState &&
    fits8 l.carrierLost

def Tariff.wf (t : Tariff) : Bool :=
  fits16 t.rate && fits16 t.halfMinute && fits16 t.fraction && fits16 t.fee && fits16 t.quantum && fits8 t.hold

def LaneConfig.wf (c : LaneConfig) : Bool :=
  fits16 c.settleTime && fits16 c.unlockWidth && fits8 c.creditLife && fits8 c.silenceLimit && fits8 c.passageLimit &&
    fits16 c.brokenLevel && fits16 c.clearLevel && fits16 c.faultLevel && fits8 c.blockedLimit

def PacingSettings.wf (p : PacingSettings) : Bool :=
  fits32 p.intervalMin && fits32 p.intervalMax && fits32 p.nominal && fits8 p.cutoffPercent && fits32 p.leadOffset

/-- A command whose operands the links and field lines can carry. -/
def Instr.wf : Instr → Bool
  | .present _ tag pass check => fits8 tag && fits32 pass && fits16 check
  | .laneStatus _ tag => fits8 tag
  | .hello _ tag => fits8 tag
  | .readEvents _ tag => fits8 tag
  | .setMask _ tag mask => fits8 tag && fits8 mask
  | .setLevels _ tag levels => fits8 tag && levels.wf
  | .readCounts _ tag selector => fits8 tag && fits8 selector
  | .readJournal _ tag start count => fits8 tag && fits32 start && fits8 count
  | .loadPass _ tag number check cls days paid firstDay lastDay =>
    fits8 tag && fits32 number && fits16 check && fits8 cls && fits8 days && fits32 paid && fits16 firstDay && fits16 lastDay
  | .amendPass _ tag number presence lastDay days paid cls check =>
    fits8 tag && fits32 number && fits8 presence && fits16 lastDay && fits8 days && fits32 paid && fits8 cls && fits16 check
  | .blockPass _ tag number => fits8 tag && fits32 number
  | .unblockPass _ tag number => fits8 tag && fits32 number
  | .purgePass _ tag number => fits8 tag && fits32 number
  | .readPass _ tag number => fits8 tag && fits32 number
  | .mergeUse _ tag number day kind => fits8 tag && fits32 number && fits16 day && fits8 kind
  | .quoteRefund _ tag number => fits8 tag && fits32 number
  | .settleRefund _ tag number generation => fits8 tag && fits32 number && fits16 generation
  | .setTariff _ tag cls record => fits8 tag && fits8 cls && record.wf
  | .readTariff _ tag cls => fits8 tag && fits8 cls
  | .setClock _ tag time => fits8 tag && fits32 time
  | .openDay _ tag day => fits8 tag && fits16 day
  | .closeDay _ tag => fits8 tag
  | .readDay _ tag => fits8 tag
  | .readStart _ tag => fits8 tag
  | .clearAll _ tag => fits8 tag
  | .setLift _ tag state => fits8 tag && fits8 state
  | .setSeats _ tag seats => fits8 tag && fits8 seats
  | .setPacing _ tag mode settings => fits8 tag && fits8 mode && settings.wf
  | .readLift _ tag => fits8 tag
  | .openLane _ tag lane => fits8 tag && fits8 lane
  | .closeLane _ tag lane => fits8 tag && fits8 lane
  | .clearLane _ tag lane => fits8 tag && fits8 lane
  | .configureLane _ tag lane config => fits8 tag && fits8 lane && config.wf
  | .readLane _ tag lane => fits8 tag && fits8 lane
  | .unknownRequest _ tag code => fits8 tag && fits8 code && !isRequestCode code
  | .frameDiscarded _ => true
  | .frameGapExpiry link => link.val != 6
  | .byteError link => link.val != 6
  | .chipSelectRelease => true
  | .answerSendBegin _ => true
  | .answerSent _ => true
  | .rotorLeave _ => true
  | .mid _ => true
  | .returnToHome _ => true
  | .beamSample _ level => level < 4096
  | .carrierEdge => true
  | .settleExpiry _ _ => true
  | .creditLifeExpiry _ credit => 1 ≤ credit && credit < 65536
  | .unlockStart _ => true
  | .unlockEnd _ => true
  | .passageLimitExpiry _ => true
  | .silenceExpiry _ => true
  | .beamBlockedExpiry _ => true
  | .lostWatchExpiry => true
  | .powerUp _ => true
  | .resetAsserted => true
  | .resetReleased => true
  | .powerLoss => true
  | .clearAllStart => true
  | .byteReceived _ _ => true

end Sys2Proof
end

