-- ==== Sys2Proof/Decode.lean ====
section
/-! DEFINITION. Request frames: the CRC, the body lengths and roles of R178, the reading of a completed frame's bytes as a
command, and the frame a master writes for a command. spec/opcode_table.json gives no row any bits, so no word spells a
command (`decodeTableWord`). -/

namespace Sys2Proof

/-- A number as `w` bytes, most significant first (R170). -/
def be : Nat → Nat → List Byte
  | 0, _ => []
  | w + 1, n => be w (n / 256) ++ [BitVec.ofNat 8 n]

/-- The number whose bytes these are, most significant first (R170). -/
def unbe (bs : List Byte) : Nat := bs.foldl (fun n b => n * 256 + b.toNat) 0

/-- The number in `w` bytes at an offset of a body. -/
def bodyNum (body : List Byte) (offset w : Nat) : Nat := unbe ((body.drop offset).take w)

/-- One bit of the CRC register's shift (R170: x^16 + x^12 + x^5 + 1, most significant bit first). -/
def crcShift (r : BitVec 16) : BitVec 16 := if r.msb then (r <<< 1) ^^^ 0x1021#16 else r <<< 1

/-- The CRC register after one more byte (R170). -/
def crcByte (r : BitVec 16) (b : Byte) : BitVec 16 :=
  let r := r ^^^ (b.setWidth 16 <<< 8)
  crcShift (crcShift (crcShift (crcShift (crcShift (crcShift (crcShift (crcShift r)))))))

/-- The CRC of code, tag, length and body: initial value 0xFFFF, no reflection, no final inversion (R170). -/
def crc (bs : List Byte) : Nat := (bs.foldl crcByte 0xFFFF#16).toNat

/-- The marker of a request frame (R170). -/
def requestMarker : Byte := 0xD3#8

/-- The marker of an answer frame (R170). -/
def answerMarker : Byte := 0xD4#8

/-- One frame: marker, code, tag, length, body, CRC (R170, R171). -/
def frameOf (marker : Byte) (code tag : Nat) (body : List Byte) : List Byte :=
  let covered := be 1 code ++ be 1 tag ++ be 1 body.length ++ body
  marker :: covered ++ be 2 (crc covered)

/-- The role of each link (R169). -/
def roleOf (l : LinkNo) : Role := if l.val < 6 then .lane else if l.val = 6 then .office else .console

/-- The body length of each request, by code; none for a code that is not in R178. -/
def bodyLength (code : Nat) : Option Nat :=
  match code with
  | 1 => some 6 | 2 => some 0 | 3 => some 0 | 4 => some 0 | 5 => some 1 | 6 => some 11 | 7 => some 1 | 8 => some 5
  | 16 => some 16 | 17 => some 15 | 18 => some 4 | 19 => some 4 | 20 => some 4 | 21 => some 4 | 22 => some 7
  | 23 => some 4 | 24 => some 6 | 25 => some 12 | 26 => some 1 | 27 => some 4 | 28 => some 2 | 29 => some 0
  | 30 => some 0 | 31 => some 0 | 32 => some 0
  | 48 => some 1 | 49 => some 1 | 50 => some 18 | 51 => some 0 | 52 => some 1 | 53 => some 1 | 54 => some 1
  | 55 => some 15 | 56 => some 1
  | _ => none

/-- The roles that may make each request (R178). -/
def roleMay (code : Nat) (r : Role) : Bool :=
  if code ≤ 3 then r == .lane
  else if code ≤ 5 then true
  else if code ≤ 8 then r != .lane
  else if code ≤ 32 then r == .office
  else r == .console

/-- The request a taken frame carries, from its code, tag and body (R178). -/
def requestOf (l : LinkNo) (code tag : Nat) (b : List Byte) : Instr :=
  match code with
  | 1 => .present l tag (bodyNum b 0 4) (bodyNum b 4 2)
  | 2 => .laneStatus l tag
  | 3 => .hello l tag
  | 4 => .readEvents l tag
  | 5 => .setMask l tag (bodyNum b 0 1)
  | 6 => .setLevels l tag ⟨bodyNum b 0 1, bodyNum b 1 1, bodyNum b 2 1, bodyNum b 3 1, bodyNum b 4 1, bodyNum b 5 1,
      bodyNum b 6 1, bodyNum b 7 1, bodyNum b 8 1, bodyNum b 9 1, bodyNum b 10 1⟩
  | 7 => .readCounts l tag (bodyNum b 0 1)
  | 8 => .readJournal l tag (bodyNum b 0 4) (bodyNum b 4 1)
  | 16 => .loadPass l tag (bodyNum b 0 4) (bodyNum b 4 2) (bodyNum b 6 1) (bodyNum b 7 1) (bodyNum b 8 4)
      (bodyNum b 12 2) (bodyNum b 14 2)
  | 17 => .amendPass l tag (bodyNum b 0 4) (bodyNum b 4 1) (bodyNum b 5 2) (bodyNum b 7 1) (bodyNum b 8 4)
      (bodyNum b 12 1) (bodyNum b 13 2)
  | 18 => .blockPass l tag (bodyNum b 0 4)
  | 19 => .unblockPass l tag (bodyNum b 0 4)
  | 20 => .purgePass l tag (bodyNum b 0 4)
  | 21 => .readPass l tag (bodyNum b 0 4)
  | 22 => .mergeUse l tag (bodyNum b 0 4) (bodyNum b 4 2) (bodyNum b 6 1)
  | 23 => .quoteRefund l tag (bodyNum b 0 4)
  | 24 => .settleRefund l tag (bodyNum b 0 4) (bodyNum b 4 2)
  | 25 => .setTariff l tag (bodyNum b 0 1) ⟨bodyNum b 1 2, bodyNum b 3 2, bodyNum b 5 2, bodyNum b 7 2, bodyNum b 9 2,
      bodyNum b 11 1⟩
  | 26 => .readTariff l tag (bodyNum b 0 1)
  | 27 => .setClock l tag (bodyNum b 0 4)
  | 28 => .openDay l tag (bodyNum b 0 2)
  | 29 => .closeDay l tag
  | 30 => .readDay l tag
  | 31 => .readStart l tag
  | 32 => .clearAll l tag
  | 48 => .setLift l tag (bodyNum b 0 1)
  | 49 => .setSeats l tag (bodyNum b 0 1)
  | 50 => .setPacing l tag (bodyNum b 0 1) ⟨bodyNum b 1 4, bodyNum b 5 4, bodyNum b 9 4, bodyNum b 13 1, bodyNum b 14 4⟩
  | 51 => .readLift l tag
  | 52 => .openLane l tag (bodyNum b 0 1)
  | 53 => .closeLane l tag (bodyNum b 0 1)
  | 54 => .clearLane l tag (bodyNum b 0 1)
  | 55 => .configureLane l tag (bodyNum b 0 1) ⟨bodyNum b 1 2, bodyNum b 3 2, bodyNum b 5 1, bodyNum b 6 1, bodyNum b 7 1,
      bodyNum b 8 2, bodyNum b 10 2, bodyNum b 12 2, bodyNum b 14 1⟩
  | 56 => .readLane l tag (bodyNum b 0 1)
  | _ => .unknownRequest l tag code

/-- The checks of R172 on a completed frame's bytes, marker first: the body length of a known code, then the CRC. -/
def frameGood (bs : List Byte) : Bool :=
  let code := bodyNum bs 1 1
  let len := bodyNum bs 3 1
  (match bodyLength code with
    | some n => n == len
    | none => true) &&
    bodyNum bs (4 + len) 2 == crc ((bs.drop 1).take (3 + len))

/-- The command a completed frame is taken as; none when R172 discards it. -/
def frameRequest (l : LinkNo) (bs : List Byte) : Option Instr :=
  if frameGood bs then
    some (requestOf l (bodyNum bs 1 1) (bodyNum bs 2 1) ((bs.drop 4).take (bodyNum bs 3 1)))
  else none

/-- The code, tag and body a master writes for a request; none for a command that is no request. -/
def requestParts : Instr → Option (LinkNo × Nat × Nat × List Byte)
  | .present l tag pass check => some (l, 1, tag, be 4 pass ++ be 2 check)
  | .laneStatus l tag => some (l, 2, tag, [])
  | .hello l tag => some (l, 3, tag, [])
  | .readEvents l tag => some (l, 4, tag, [])
  | .setMask l tag mask => some (l, 5, tag, be 1 mask)
  | .setLevels l tag v => some (l, 6, tag, be 1 v.passage ++ be 1 v.backout ++ be 1 v.creditEnded ++ be 1 v.laneReady ++
      be 1 v.untaggedRider ++ be 1 v.beamBlocked ++ be 1 v.linkSilent ++ be 1 v.laneFault ++ be 1 v.carrierRegained ++
      be 1 v.dayState ++ be 1 v.carrierLost)
  | .readCounts l tag selector => some (l, 7, tag, be 1 selector)
  | .readJournal l tag start count => some (l, 8, tag, be 4 start ++ be 1 count)
  | .loadPass l tag number check cls days paid firstDay lastDay => some (l, 16, tag, be 4 number ++ be 2 check ++ be 1 cls ++
      be 1 days ++ be 4 paid ++ be 2 firstDay ++ be 2 lastDay)
  | .amendPass l tag number presence lastDay days paid cls check => some (l, 17, tag, be 4 number ++ be 1 presence ++
      be 2 lastDay ++ be 1 days ++ be 4 paid ++ be 1 cls ++ be 2 check)
  | .blockPass l tag number => some (l, 18, tag, be 4 number)
  | .unblockPass l tag number => some (l, 19, tag, be 4 number)
  | .purgePass l tag number => some (l, 20, tag, be 4 number)
  | .readPass l tag number => some (l, 21, tag, be 4 number)
  | .mergeUse l tag number day kind => some (l, 22, tag, be 4 number ++ be 2 day ++ be 1 kind)
  | .quoteRefund l tag number => some (l, 23, tag, be 4 number)
  | .settleRefund l tag number generation => some (l, 24, tag, be 4 number ++ be 2 generation)
  | .setTariff l tag cls t => some (l, 25, tag, be 1 cls ++ be 2 t.rate ++ be 2 t.halfMinute ++ be 2 t.fraction ++
      be 2 t.fee ++ be 2 t.quantum ++ be 1 t.hold)
  | .readTariff l tag cls => some (l, 26, tag, be 1 cls)
  | .setClock l tag time => some (l, 27, tag, be 4 time)
  | .openDay l tag day => some (l, 28, tag, be 2 day)
  | .closeDay l tag => some (l, 29, tag, [])
  | .readDay l tag => some (l, 30, tag, [])
  | .readStart l tag => some (l, 31, tag, [])
  | .clearAll l tag => some (l, 32, tag, [])
  | .setLift l tag state => some (l, 48, tag, be 1 state)
  | .setSeats l tag seats => some (l, 49, tag, be 1 seats)
  | .setPacing l tag mode p => some (l, 50, tag, be 1 mode ++ be 4 p.intervalMin ++ be 4 p.intervalMax ++ be 4 p.nominal ++
      be 1 p.cutoffPercent ++ be 4 p.leadOffset)
  | .readLift l tag => some (l, 51, tag, [])
  | .openLane l tag lane => some (l, 52, tag, be 1 lane)
  | .closeLane l tag lane => some (l, 53, tag, be 1 lane)
  | .clearLane l tag lane => some (l, 54, tag, be 1 lane)
  | .configureLane l tag lane c => some (l, 55, tag, be 1 lane ++ be 2 c.settleTime ++ be 2 c.unlockWidth ++
      be 1 c.creditLife ++ be 1 c.silenceLimit ++ be 1 c.passageLimit ++ be 2 c.brokenLevel ++ be 2 c.clearLevel ++
      be 2 c.faultLevel ++ be 1 c.blockedLimit)
  | .readLane l tag lane => some (l, 56, tag, be 1 lane)
  | .unknownRequest l tag code => some (l, code, tag, [])
  | .frameDiscarded _ => none
  | .frameGapExpiry _ => none
  | .byteError _ => none
  | .chipSelectRelease => none
  | .answerSendBegin _ => none
  | .answerSent _ => none
  | .rotorLeave _ => none
  | .mid _ => none
  | .returnToHome _ => none
  | .beamSample _ _ => none
  | .carrierEdge => none
  | .settleExpiry _ _ => none
  | .creditLifeExpiry _ _ => none
  | .unlockStart _ => none
  | .unlockEnd _ => none
  | .passageLimitExpiry _ => none
  | .silenceExpiry _ => none
  | .beamBlockedExpiry _ => none
  | .lostWatchExpiry => none
  | .powerUp _ => none
  | .resetAsserted => none
  | .resetReleased => none
  | .powerLoss => none
  | .clearAllStart => none
  | .byteReceived _ _ => none

/-- The link and the whole frame of a request, CRC included (R170). -/
def requestFrame (i : Instr) : Option (LinkNo × List Byte) :=
  (requestParts i).map fun (l, code, tag, body) => (l, frameOf requestMarker code tag body)

/-- The command a word spells by the table's bits: spec/opcode_table.json gives no row any bits, so none does (log 4). -/
def decodeTableWord (_nbits _w : Nat) : Option Instr := none

end Sys2Proof
end

