-- ==== Sys2Proof/Machine/State.lean ====
section
/-! DEFINITION. Everything the part holds, as plain data, and its value after reset. Names follow the manual's. -/

namespace Sys2Proof.Machine

/-! ## Passes, day use and tariffs (chapters 1 to 3) -/

/-- Kind of a day-use entry (R23). -/
inductive DayKind where
  | full
  | half
  deriving DecidableEq, Repr

/-- Origin of a day-use entry (R23). -/
inductive Origin where
  | localAt (lane : LaneNo)
  | merged
  deriving DecidableEq, Repr

/-- Status of a day-use entry (R23). -/
inductive EntryStatus where
  | tentative
  | final
  deriving DecidableEq, Repr

/-- A day-use entry (R23). -/
structure DayUse where
  day : Nat
  kind : DayKind
  origin : Origin
  status : EntryStatus
  deriving DecidableEq, Repr

/-- State of a pass (R4). -/
inductive PassState where
  | active
  | blocked
  | surrendered
  deriving DecidableEq, Repr

/-- The last passage of a pass (R8). -/
structure LastPassage where
  day : Nat
  timeOfDay : Nat
  lane : LaneNo
  deriving DecidableEq, Repr

/-- The settlement part of a pass record (R7). -/
structure Settlement where
  refund : Nat
  settleDay : Nat
  full : Nat
  half : Nat
  generation : Nat
  deriving DecidableEq, Repr

/-- A pass record (R2); its number keys it. -/
structure Pass where
  number : Nat
  check : Nat
  cls : Nat
  /-- Days bought D, which is also the pass's reservation in the Pool. -/
  days : Nat
  /-- Paid amount P. -/
  paid : Nat
  firstDay : Nat
  lastDay : Nat
  state : PassState
  overUse : Bool
  generation : Nat
  lastPassage : Option LastPassage
  /-- Passback hold end, a clock time (R9). -/
  holdEnd : Option Nat
  /-- Day-use list, in ascending day order (R24). -/
  uses : List DayUse
  settlement : Option Settlement
  deriving DecidableEq, Repr

/-- Day state (R44). -/
inductive DayState where
  | closed
  | opened
  | closing
  deriving DecidableEq, Repr

/-! ## Credits and lane units (chapters 4 to 6) -/

/-- State of a credit (R71). -/
inductive CreditState where
  | holding
  | released
  | unlocked
  | passing
  deriving DecidableEq, Repr

/-- A credit record (R70). -/
structure Credit where
  number : Nat
  lane : LaneNo
  pass : Nat
  grantedAt : Nat
  /-- First-use link, holding the kind of its TENTATIVE entry. -/
  firstUse : Option DayKind
  state : CreditState
  releasedAt : Option Nat
  slot : Option Nat
  earliestUnlock : Option Nat
  unlockStart : Option Nat
  unlockEnd : Option Nat
  /-- The clock time at which the credit-life timer runs out; absent while it is stopped (R113). -/
  lifeEnd : Option Nat
  deriving DecidableEq, Repr

/-- Cause of a withdrawal, in the order of R72. -/
inductive Cause where
  | laneSilent
  | laneFault
  | laneClosed
  | dayClosing
  | passBlocked
  | start
  deriving DecidableEq, Repr

/-- Outcome of a credit (R72). -/
inductive CreditOutcome where
  | passed
  | expiredUnreleased
  | expiredUnused
  | withdrawn (cause : Cause)
  deriving DecidableEq, Repr

/-- Deny reason, in the order of R58. -/
inductive DenyReason where
  | dayClosed
  | unknownPass
  | checkMismatch
  | blocked
  | surrendered
  | notYetValid
  | expired
  | inUse
  | passback
  | daysExhausted
  deriving DecidableEq, Repr

/-- The ten deny counts of a lane (R58). -/
structure DenyCounts where
  dayClosed : Nat
  unknownPass : Nat
  checkMismatch : Nat
  blocked : Nat
  surrendered : Nat
  notYetValid : Nat
  expired : Nat
  inUse : Nat
  passback : Nat
  daysExhausted : Nat
  deriving DecidableEq, Repr

/-- The eighteen counts of a lane (R119). -/
structure LaneCounts where
  grants : Nat
  passages : Nat
  tailgates : Nat
  forced : Nat
  backouts : Nat
  expiredUnreleased : Nat
  expiredUnused : Nat
  withdrawn : Nat
  denies : DenyCounts
  deriving DecidableEq, Repr

/-- Gate state of a lane, in the order of R79. -/
inductive GateState where
  | off
  | settling
  | ready
  | holding
  | released
  | unlocked
  | passing
  | closing
  | fault
  deriving DecidableEq, Repr

/-- Rotor tracker (R85); NOT READ while it does not run (R79). -/
inductive Tracker where
  | home
  | awayFirst
  | awaySecond
  | notRead
  deriving DecidableEq, Repr

/-- Kind of a rotation, with the credit number of a CREDITED one (R85). -/
inductive RotationKind where
  | credited (credit : Nat)
  | forced
  deriving DecidableEq, Repr

/-- The open rotation record (R85). -/
structure Rotation where
  kind : RotationKind
  leaveAt : Nat
  midAt : Option Nat
  beamEntries : Nat
  endPassed : Bool
  /-- The MODEL's own mark: the rotation committed a credit at its MID, as R109 asks at the return (log 10). -/
  committed : Bool
  deriving DecidableEq, Repr

/-- Beam classification (R90). -/
inductive Beam where
  | broken
  | clear
  deriving DecidableEq, Repr

/-- A beam sample with its clock time (R90). -/
structure Sample where
  level : Nat
  takenAt : Nat
  deriving DecidableEq, Repr

/-- Cause of a lane fault, in the order of R94. -/
inductive FaultCause where
  | rotorNotHome
  | rotorStuck
  | beamFault
  deriving DecidableEq, Repr

/-- The fault record of a lane (R94, R95). -/
structure FaultRecord where
  first : FaultCause
  faultAt : Nat
  later : Option FaultCause
  count : Nat
  deriving DecidableEq, Repr

/-- State of a lane link (R97). -/
inductive LinkState where
  | alive
  | silent
  deriving DecidableEq, Repr

/-- One lane unit (chapter 5). -/
structure LaneUnit where
  config : LaneConfig
  gate : GateState
  /-- Credit queue, head first (R57, R69). -/
  queue : List Credit
  nextCredit : Nat
  tracker : Tracker
  rotation : Option Rotation
  beam : Option Beam
  lastSample : Option Sample
  /-- No sample has been taken since the classifier started (R90). -/
  firstSample : Bool
  /-- The clock time at which the settle timer runs out (R82). -/
  settleEnd : Option Nat
  /-- The start of the running passage limit timer (R89). -/
  passageFrom : Option Nat
  /-- The start of the running beam blocked timer (R91). -/
  blockedFrom : Option Nat
  /-- The clock time at which the silence timer runs out (R97). -/
  silenceEnd : Option Nat
  link : LinkState
  unlockOut : Bool
  sensorPower : Bool
  fault : Option FaultRecord
  lastEnded : Option (Nat × CreditOutcome)
  counts : LaneCounts
  deriving DecidableEq, Repr

/-! ## The Carrier Pacer (chapter 7) -/

/-- Lift state (R127). -/
inductive LiftState where
  | running
  | stopped
  deriving DecidableEq, Repr

/-- Pacing mode (R126). -/
inductive PacingMode where
  | paced
  | free
  deriving DecidableEq, Repr

/-- Carrier tracking (R129). -/
inductive Tracking where
  | tracking
  | lost
  deriving DecidableEq, Repr

/-- The slot record (R134). -/
structure Slot where
  number : Nat
  openedAt : Nat
  capacity : Nat
  released : Nat
  cutoffEnd : Nat
  earliestUnlock : Nat
  deriving DecidableEq, Repr

/-- The lift counts (R139). -/
structure LiftCounts where
  slotsOpened : Nat
  seatsOffered : Nat
  seatsReleased : Nat
  carrierLosses : Nat
  deriving DecidableEq, Repr

/-- What the Carrier Pacer holds (R124). -/
structure Pacer where
  lift : LiftState
  mode : PacingMode
  settings : PacingSettings
  activeSeats : Nat
  pendingSeats : Nat
  tracking : Tracking
  lastEdge : Option Nat
  /-- Interval history, oldest first (R130). -/
  history : List Nat
  watchRunning : Bool
  /-- The reference from which the lost watch runs, or last ran (R131, R132; log 23). -/
  watchFrom : Nat
  slot : Option Slot
  lastSlot : Nat
  counts : LiftCounts
  deriving DecidableEq, Repr

/-! ## Journal and Event Status (chapter 9) -/

/-- The event kinds raised per lane, in the order of R162. -/
inductive LaneEvent where
  | passage
  | backout
  | creditEnded
  | laneReady
  | untaggedRider
  | beamBlocked
  | linkSilent
  | laneFault
  deriving DecidableEq, Repr

/-- The lift-wide event kinds, in the order of R162. -/
inductive LiftEvent where
  | carrierRegained
  | dayState
  | carrierLost
  deriving DecidableEq, Repr

/-- A pair of a pending set (R164). -/
inductive EventPair where
  | atLane (kind : LaneEvent) (lane : LaneNo)
  | lift (kind : LiftEvent)
  deriving DecidableEq, Repr

/-- Cause of an UNTAGGED record (R160). -/
inductive UntaggedCause where
  | tailgate
  | forced
  deriving DecidableEq, Repr

/-- Kind of a start (R182). -/
inductive StartKind where
  | cold
  | warm
  deriving DecidableEq, Repr

/-- Cause of a start (R182). -/
inductive StartCause where
  | powerUp
  | reset
  | clearAll
  deriving DecidableEq, Repr

/-- Kind and fields of a journal record (R160). -/
inductive JournalBody where
  | passage (lane : LaneNo) (pass credit : Nat) (firstUse : Option DayKind) (slot : Option Nat) (rotation : Nat)
  | untagged (lane : LaneNo) (cause : UntaggedCause)
  | backout (lane : LaneNo) (pass : Option Nat)
  | creditEnded (lane : LaneNo) (pass credit : Nat) (outcome : CreditOutcome) (tentativeRemoved : Bool)
  | beamBlocked (lane : LaneNo)
  | linkSilent (lane : LaneNo) (withdrawn : Nat)
  | laneFault (lane : LaneNo) (first : FaultCause) (later : Option FaultCause)
  | settlement (pass refund full half generation : Nat)
  | overuse (pass day : Nat)
  | carrierLost
  | carrierRegained (gap : Nat)
  | dayOpened (day : Nat) (reopen : Bool)
  | dayClosed (day passages untagged : Nat)
  | start (kind : StartKind) (cause : StartCause) (withdrawn removed : Nat)
  deriving DecidableEq, Repr

/-- A stamp with the clock set: day number and time of day (R159). -/
structure Stamp where
  day : Nat
  timeOfDay : Nat
  deriving DecidableEq, Repr

/-- A journal record; no stamp is "clock not set" (R157, R159). -/
structure JournalRecord where
  seq : Nat
  stamp : Option Stamp
  body : JournalBody
  deriving DecidableEq, Repr

/-- The start record; no day state before is UNKNOWN (R184). -/
structure StartRecord where
  kind : StartKind
  cause : StartCause
  dayBefore : Option DayState
  lastOpened : Nat
  withdrawn : Nat
  removed : Nat
  seq : Nat
  deriving DecidableEq, Repr

/-! ## Answers (R179 and the rule of each request) -/

/-- Disposition of a blocked pass's credit (R14). -/
inductive Disposition where
  | none
  | withdrawn (lane : LaneNo) (credit : Nat)
  | running (lane : LaneNo) (credit : Nat) (state : CreditState)
  deriving DecidableEq, Repr

/-- Result of a merge that is taken (R30). -/
inductive MergeResult where
  | inserted
  | finalised
  | upgraded
  | noChange
  deriving DecidableEq, Repr

/-- The fields SET TARIFF may name as out of range: the class number, and those of R37 in table order. -/
inductive TariffField where
  | classNumber
  | rate
  | halfMinute
  | fraction
  | fee
  | quantum
  | hold
  deriving DecidableEq, Repr

/-- What a quote reports (R142). -/
structure Quote where
  cls : Nat
  full : Nat
  half : Nat
  /-- C, the charge. -/
  charge : Nat
  /-- A, the usage residue. -/
  residue : Nat
  /-- S, the pro-rata value. -/
  proRata : Nat
  /-- N, after the refund fraction. -/
  afterFraction : Nat
  /-- G, after the handling fee. -/
  afterFee : Nat
  refund : Nat
  overUse : Bool
  generation : Nat
  deriving DecidableEq, Repr

/-- What READ PASS reports beside the record (R18). -/
structure PassReport where
  pass : Pass
  remaining : Nat
  /-- ms until the passback hold end, when one is stored. -/
  holdLeft : Option Nat
  credit : Option (LaneNo × Nat × CreditState)
  deriving DecidableEq, Repr

/-- What READ LANE reports (R99). -/
structure LaneReport where
  gate : GateState
  tracker : Tracker
  rotation : Option Rotation
  beam : Option Beam
  lastSample : Option Sample
  unlockOut : Bool
  queue : List Credit
  fault : Option FaultRecord
  link : LinkState
  config : LaneConfig
  nextCredit : Nat
  deriving DecidableEq, Repr

/-- What READ COUNTS reports of one lane (R122). -/
structure CountsReport where
  counts : LaneCounts
  queued : Nat
  deriving DecidableEq, Repr

/-- An answer, with the data its rule names. -/
inductive Answer where
  | grant (credit : Nat) (firstUse : Option DayKind) (remaining : Nat)
  | deny (reason : DenyReason) (detail : Nat)
  | notInService (gate : GateState)
  | queueFull (head : Nat)
  | laneStatus (gate : GateState) (head : Option (Nat × CreditState)) (ended : Option (Nat × CreditOutcome))
  | hello (link : LinkNo) (role : Role)
  | events (mask : Nat) (pairs : List (EventPair × Nat))
  | mask (mask : Nat) (lineActive : Bool)
  | levels (levels : Levels)
  | levelOutOfRange (kind : Nat)
  | counts (day : DayState) (lastOpened : Nat) (lanes : List CountsReport) (lift : LiftCounts) (office : Option (Nat × Nat))
  | journal (oldest next : Nat) (gap : Bool) (records : List JournalRecord)
  | loaded (number generation free : Nat)
  | amended (generation free : Nat)
  | blocked (disposition : Disposition)
  | unblocked (state : PassState)
  | purged (free : Nat)
  | pass (report : PassReport)
  | merged (result : MergeResult) (count remaining generation : Nat)
  | quote (quote : Quote)
  | settledNow (quote : Quote) (settleDay generationSettled generation : Nat)
  | tariff (record : Tariff)
  | tariffOutOfRange (field : TariffField)
  | clock (timeOfDay : Nat)
  | dayOpened (day : Nat) (reopen : Bool) (timeOfDay : Nat)
  | dayClosing (state : DayState) (withdrawn : Nat)
  | alreadyClosing (queued : Nat)
  | alreadyClosed
  | day (state : DayState) (current lastOpened : Nat) (clockSet : Bool) (timeOfDay minute clock queued : Nat)
  | start (record : StartRecord)
  | cleared
  | lift (state : LiftState) (credits : Option Nat)
  | seats (pending active : Nat)
  | pacing (mode : PacingMode) (settings : PacingSettings)
  | pacer (pacer : Pacer) (estimate : Nat)
  | laneOpened (gate : GateState) (fault : Option FaultRecord)
  | laneClosed (gate : GateState) (credits : Option Nat)
  | laneCleared (gate : GateState)
  | configured (config : LaneConfig) (gate : GateState)
  | laneBusy (queued : Nat)
  | lane (report : LaneReport)
  | outOfRange
  | unknownPass
  | duplicate
  | tableFull
  | poolFull (free : Nat)
  | belowUse (count : Nat)
  | settled
  | settledMerge (refund : Nat)
  | settledDetail (refund settleDay : Nat)
  | creditPending (lane : LaneNo) (credit : Nat)
  | outOfWindow (firstDay lastDay lastOpened : Nat)
  | overUse (days count : Nat)
  | stale (generation : Nat)
  | noDay
  | dayOpen (current : Option Nat)
  | clockNotSet
  | dayBehind (lastOpened : Nat)
  | busy (tag code : Nat)
  | refusedRole
  | unknownRequest
  deriving DecidableEq, Repr

/-- An answer in a link's output queue, under the header it echoes (R169, R170). -/
structure OutAnswer where
  code : Nat
  tag : Nat
  answer : Answer
  begun : Bool
  deriving DecidableEq, Repr

/-- A link's receiver: RECEIVING with the bytes taken so far, marker first, and the time of the last byte, from which the
gap timer runs (R169, R172). -/
inductive Receiver where
  | idle
  | receiving (bytes : List Byte) (since : Nat)
  deriving DecidableEq, Repr

/-- One link endpoint with its part of Event Status (R164, R165, R169). -/
structure Endpoint where
  receiver : Receiver
  /-- Request slot: the code and tag of the request IN PROGRESS. -/
  slot : Option (Nat × Nat)
  output : List OutAnswer
  driver : Bool
  /-- Pending set, in the order of R167. -/
  pairs : List EventPair
  mask : Nat
  attention : Bool
  deriving DecidableEq, Repr

/-- The byte side of the office link (R177). -/
structure OfficePort where
  /-- Bytes of the first queued answer already clocked out. -/
  readPos : Nat
  /-- The MODEL's own field: the filler R177 allows before an answer may still come (log 22). -/
  fillerOpen : Bool
  /-- The byte last clocked out (log 24). -/
  dataOut : Byte
  deriving DecidableEq, Repr

/-- Whether the part takes events (R182). -/
inductive RunState where
  /-- In operation. -/
  | running
  /-- RESET is asserted after a start was taken. -/
  | heldReset
  /-- Power was applied with RESET asserted; RETAIN_OK as read then. -/
  | heldPowerUp (retainOk : Bool)
  /-- Without power; whether RESET is asserted. -/
  | off (resetAsserted : Bool)
  deriving DecidableEq, Repr

/-- Reasons to stop with a fault. The manual names none: every event leaves the part a next state, and a lane fault (R94)
is part of that state. No constructor, so nothing raises one. Safe. -/
inductive Fault where
  deriving DecidableEq, Repr

/-- Reasons to refuse a command. -/
inductive Refusal where
  /-- Raised by `exec` alone, for a command without a meaning; no arm of it does. Safe. -/
  | notModelled (mnemonic : String)
  deriving DecidableEq, Repr

/-- The state of the part, and the queue of the commands that wait. -/
structure State where
  /-- The commands that wait, first in first out. The model's own field (log 4). -/
  pending : List Instr
  run : RunState
  /-- Pass Table, sorted by pass number (R1). -/
  passes : List Pass
  /-- The Pool's free count (R21). -/
  free : Nat
  tariffs : Eight Tariff
  /-- Clock time in ms (R40). -/
  clock : Nat
  /-- Time-of-day offset (R40). -/
  offset : Nat
  clockSet : Bool
  day : DayState
  lastOpened : Nat
  lanes : Six LaneUnit
  pacer : Pacer
  /-- Journal ring, oldest first (R157). -/
  journal : List JournalRecord
  nextSeq : Nat
  levels : Levels
  links : Eight Endpoint
  office : OfficePort
  startRecord : StartRecord
  /-- How many free values have been read: the model's own counter (log 22). -/
  freeCount : Nat
  deriving DecidableEq, Repr

/-! ## Cold values (R181) and reset -/

/-- R37 defaults. -/
def Tariff.cold : Tariff :=
  { rate := 0, halfMinute := 1440, fraction := 10000, fee := 0, quantum := 1, hold := 5 }

/-- R76 defaults. -/
def LaneConfig.cold : LaneConfig :=
  { settleTime := 250, unlockWidth := 4000, creditLife := 30, silenceLimit := 5, passageLimit := 20,
    brokenLevel := 1200, clearLevel := 2400, faultLevel := 4000, blockedLimit := 10 }

/-- R125 defaults. -/
def PacingSettings.cold : PacingSettings :=
  { intervalMin := 4000, intervalMax := 20000, nominal := 8000, cutoffPercent := 60, leadOffset := 0 }

/-- R162 defaults. -/
def Levels.cold : Levels :=
  { passage := 0, backout := 1, creditEnded := 2, laneReady := 2, untaggedRider := 3, beamBlocked := 4, linkSilent := 5,
    laneFault := 6, carrierRegained := 3, dayState := 2, carrierLost := 6 }

/-- Lane counts of 0 (R120). -/
def LaneCounts.zero : LaneCounts :=
  { grants := 0, passages := 0, tailgates := 0, forced := 0, backouts := 0, expiredUnreleased := 0, expiredUnused := 0,
    withdrawn := 0, denies := ⟨0, 0, 0, 0, 0, 0, 0, 0, 0, 0⟩ }

/-- Lift counts of 0 (R139). -/
def LiftCounts.zero : LiftCounts := ⟨0, 0, 0, 0⟩

/-- A lane unit as every start leaves it, with the items a warm start keeps (R102). -/
def LaneUnit.atStart (config : LaneConfig) (nextCredit : Nat) (counts : LaneCounts) : LaneUnit :=
  { config, nextCredit, counts, gate := .off, queue := [], tracker := .notRead, rotation := none, beam := none,
    lastSample := none, firstSample := true, settleEnd := none, passageFrom := none, blockedFrom := none,
    silenceEnd := none, link := .alive, unlockOut := false, sensorPower := false, fault := none, lastEnded := none }

/-- The pacer as a cold start leaves it (R124). -/
def Pacer.cold : Pacer :=
  { lift := .stopped, mode := .paced, settings := PacingSettings.cold, activeSeats := 4, pendingSeats := 4,
    tracking := .tracking, lastEdge := none, history := [], watchRunning := false, watchFrom := 0, slot := none,
    lastSlot := 0, counts := LiftCounts.zero }

/-- A link endpoint as every start leaves it (R164, R165, R166, R169). -/
def Endpoint.atStart : Endpoint :=
  { receiver := .idle, slot := none, output := [], driver := false, pairs := [], mask := 1, attention := false }

/-- The office link's byte side as every start leaves it (R169). -/
def OfficePort.atStart : OfficePort := { readPos := 0, fillerOpen := false, dataOut := 0#8 }

/-- The machine right after reset: the COLD start caused by POWER-UP has been taken (R182, R183; log 3). -/
def State.reset : State :=
  { pending := [], run := .running, passes := [], free := Config.poolSize, tariffs := Eight.all Tariff.cold,
    clock := 0, offset := 0, clockSet := false, day := .closed, lastOpened := 0,
    lanes := Six.all (LaneUnit.atStart LaneConfig.cold 1 LaneCounts.zero), pacer := Pacer.cold,
    journal := [{ seq := 1, stamp := none, body := .start .cold .powerUp 0 0 }], nextSeq := 2, levels := Levels.cold,
    links := Eight.all Endpoint.atStart, office := OfficePort.atStart,
    startRecord :=
      { kind := .cold, cause := .powerUp, dayBefore := none, lastOpened := 0, withdrawn := 0, removed := 0, seq := 1 },
    freeCount := 0 }

end Sys2Proof.Machine
end

