-- ==== Sys2Proof/Machine/Ops.lean ====
section
/-! DEFINITION. The named operations over the state: lanes, links, the clock, the Journal, the Pass Table and the day-use
lists. -/

namespace Sys2Proof.Machine

/-- What a command gives. -/
abbrev Result := Host.Outcome State Fault Refusal

/-- An event reaches the part only while it runs: while RESET is asserted it takes none (R182), and without power it does
nothing (log 6). -/
def whenRunning (s : State) (event : State → State) : Result := .next (if s.run = .running then event s else s)

/-! ## Lanes and links -/

def State.lane (s : State) (i : LaneNo) : LaneUnit := s.lanes.get i
def State.setLane (s : State) (i : LaneNo) (u : LaneUnit) : State := { s with lanes := s.lanes.set i u }
def State.modLane (s : State) (i : LaneNo) (f : LaneUnit → LaneUnit) : State := s.setLane i (f (s.lane i))
def State.link (s : State) (l : LinkNo) : Endpoint := s.links.get l
def State.setLink (s : State) (l : LinkNo) (e : Endpoint) : State := { s with links := s.links.set l e }
def State.modLink (s : State) (l : LinkNo) (f : Endpoint → Endpoint) : State := s.setLink l (f (s.link l))

/-- The lane a lane number names (R75). -/
def laneOf (n : Nat) : Option LaneNo := if h : n < 6 then some ⟨n, h⟩ else none

/-- The lane of a lane link (R169). -/
def laneOfLink (l : LinkNo) : Option LaneNo := laneOf l.val

/-- The link of a lane (R169). -/
def linkOfLane (i : LaneNo) : LinkNo := ⟨i.val, by omega⟩

/-- The office link (R169). -/
def officeLink : LinkNo := 6

/-- The console link (R169). -/
def consoleLink : LinkNo := 7

/-- A lane in service: READY or a state that follows the head credit (section 5.2). -/
def GateState.inService : GateState → Bool
  | .ready => true
  | .holding => true
  | .released => true
  | .unlocked => true
  | .passing => true
  | .off => false
  | .settling => false
  | .closing => false
  | .fault => false

/-- The gate state a head credit gives (R71, R80). -/
def gateOfCredit : CreditState → GateState
  | .holding => .holding
  | .released => .released
  | .unlocked => .unlocked
  | .passing => .passing

/-- The gate state a queue gives in a lane in service (R80). -/
def gateOfQueue : List Credit → GateState
  | [] => .ready
  | c :: _ => gateOfCredit c.state

/-- In service the gate state follows the head credit; in the other states it does not (R80). -/
def LaneUnit.follow (u : LaneUnit) : LaneUnit :=
  if u.gate.inService then { u with gate := gateOfQueue u.queue } else u

/-- A change of the head credit, with the gate state after it (R80). -/
def LaneUnit.modHead (u : LaneUnit) (f : Credit → Credit) : LaneUnit :=
  match u.queue with
  | [] => u
  | c :: cs => { u with queue := f c :: cs }.follow

/-- Credits queued over the six lanes. -/
def State.queued (s : State) : Nat := (s.lanes.toList.map fun u => u.queue.length).sum

/-- Every lane's queue is empty. -/
def State.allEmpty (s : State) : Bool := s.lanes.toList.all fun u => u.queue.isEmpty

/-! ## The clock (R40 to R44) -/

/-- Time passes until a clock time, if it has not come yet (log 2). -/
def State.waitUntil (s : State) (t : Nat) : State := { s with clock := max s.clock t }

/-- R42. -/
def State.timeOfDay (s : State) : Nat := (s.clock + s.offset) % Config.dayMs

/-- R42. -/
def State.minute (s : State) : Nat := s.timeOfDay / 60000

/-- R44: the last-opened day while OPEN or CLOSING, and 0 while CLOSED. -/
def State.currentDay (s : State) : Nat := if s.day = .closed then 0 else s.lastOpened

/-! ## The Journal (R157 to R159) -/

/-- The stamp of a record appended now (R159). -/
def State.stamp (s : State) : Option Stamp :=
  if s.clockSet then some { day := s.currentDay, timeOfDay := s.timeOfDay } else none

/-- The ring with a record at its end, the oldest gone if it was full (R158). -/
def ringPush (ring : List JournalRecord) (r : JournalRecord) : List JournalRecord :=
  (if ring.length < Config.ringSize then ring else ring.tail) ++ [r]

/-- A block appends a record (R158). -/
def State.append (s : State) (body : JournalBody) : State :=
  { s with
    journal := ringPush s.journal { seq := s.nextSeq, stamp := s.stamp, body := body }
    nextSeq := (s.nextSeq + 1) % Config.seqTop }

/-! ## The Pass Table (R1) -/

/-- The record a pass number keys. -/
def State.findPass (s : State) (n : Nat) : Option Pass := s.passes.find? fun p => p.number = n

/-- A change of the record a pass number keys. -/
def State.modPass (s : State) (n : Nat) (f : Pass → Pass) : State :=
  { s with passes := s.passes.map fun p => if p.number = n then f p else p }

/-- The table with one more record, sorted by pass number. -/
def insertPass (p : Pass) : List Pass → List Pass
  | [] => [p]
  | q :: qs => if p.number < q.number then p :: q :: qs else q :: insertPass p qs

/-- The table without the record a pass number keys. -/
def removePass (n : Nat) (ps : List Pass) : List Pass := ps.filter fun p => p.number ≠ n

/-- The generation after one more change (R5). -/
def bump (generation : Nat) : Nat := (generation + 1) % 65536

/-! ## Day-use lists (R23 to R28) -/

/-- The entry for a day. -/
def findUse (day : Nat) (us : List DayUse) : Option DayUse := us.find? fun u => u.day = day

/-- The list with one more entry, at the position its day gives (R24). -/
def insertUse (e : DayUse) : List DayUse → List DayUse
  | [] => [e]
  | u :: us => if e.day < u.day then e :: u :: us else u :: insertUse e us

/-- The TENTATIVE entry becomes FINAL, keeping day, kind and origin (R27). -/
def finaliseUses (us : List DayUse) : List DayUse :=
  us.map fun u => if u.status = .tentative then { u with status := .final } else u

/-- The TENTATIVE entry is removed (R28). -/
def removeTentative (us : List DayUse) : List DayUse := us.filter fun u => u.status ≠ .tentative

/-- The list with the entry of a day changed. -/
def modUse (day : Nat) (f : DayUse → DayUse) (us : List DayUse) : List DayUse :=
  us.map fun u => if u.day = day then f u else u

/-- TENTATIVE entries of a list. -/
def tentatives (us : List DayUse) : Nat := us.countP fun u => u.status = .tentative

/-- FINAL entries of one kind (R143). -/
def finals (k : DayKind) (us : List DayUse) : Nat := us.countP fun u => u.kind = k ∧ u.status = .final

/-- Days remaining: D minus the entry count (R25). -/
def Pass.remaining (p : Pass) : Nat := p.days - p.uses.length

/-! ## Credits in the queues (R63) -/

/-- The place and the record of a pass's credit in one queue. -/
def creditIn (n : Nat) : List Credit → Nat → Option (Nat × Credit)
  | [], _ => none
  | c :: cs, k => if c.pass = n then some (k, c) else creditIn n cs (k + 1)

/-- The lane, the place and the record of a pass's credit (R63: at most one, in any credit state). -/
def State.creditOf (s : State) (n : Nat) : Option (LaneNo × Nat × Credit) :=
  allLanes.findSome? fun i => (creditIn n (s.lane i).queue 0).map fun kc => (i, kc.1, kc.2)

end Sys2Proof.Machine
end

