-- ==== Sys2Proof/Machine/Flags.lean ====
section
/-! DEFINITION. Event Status: levels, pending sets and attention lines (R162 to R167). -/

namespace Sys2Proof.Machine

/-- The place of a per-lane kind in the table of R162. -/
def LaneEvent.index : LaneEvent → Nat
  | .passage => 0
  | .backout => 1
  | .creditEnded => 2
  | .laneReady => 3
  | .untaggedRider => 4
  | .beamBlocked => 5
  | .linkSilent => 6
  | .laneFault => 7

/-- The place of a lift-wide kind in the table of R162. -/
def LiftEvent.index : LiftEvent → Nat
  | .carrierRegained => 8
  | .dayState => 9
  | .carrierLost => 10

/-- The order of the pairs in an answer of READ EVENTS (R167). -/
def EventPair.rank : EventPair → Nat
  | .atLane k i => k.index * 6 + i.val
  | .lift k => 40 + k.index

/-- The level of a pair's kind (R162). -/
def levelOf (v : Levels) : EventPair → Nat
  | .atLane .passage _ => v.passage
  | .atLane .backout _ => v.backout
  | .atLane .creditEnded _ => v.creditEnded
  | .atLane .laneReady _ => v.laneReady
  | .atLane .untaggedRider _ => v.untaggedRider
  | .atLane .beamBlocked _ => v.beamBlocked
  | .atLane .linkSilent _ => v.linkSilent
  | .atLane .laneFault _ => v.laneFault
  | .lift .carrierRegained => v.carrierRegained
  | .lift .dayState => v.dayState
  | .lift .carrierLost => v.carrierLost

/-- A pending set with a pair in it; a set holds no pair twice (R164). -/
def insertPair (p : EventPair) : List EventPair → List EventPair
  | [] => [p]
  | q :: qs => if p = q then q :: qs else if p.rank < q.rank then p :: q :: qs else q :: insertPair p qs

/-- Whether an attention line is active: some pending pair's level is above the mask (R166). -/
def lineActive (v : Levels) (mask : Nat) (pairs : List EventPair) : Bool := pairs.any fun p => mask < levelOf v p

/-- The attention line decided afresh (R166). -/
def Endpoint.decide (v : Levels) (e : Endpoint) : Endpoint := { e with attention := lineActive v e.mask e.pairs }

/-- A pair enters a link's pending set (R164). -/
def Endpoint.raise (v : Levels) (p : EventPair) (e : Endpoint) : Endpoint :=
  { e with pairs := insertPair p e.pairs }.decide v

/-- The links whose pending sets a pair enters (R164). -/
def inScope (p : EventPair) (l : LinkNo) : Bool :=
  match p with
  | .atLane _ i => l = linkOfLane i || l = officeLink || l = consoleLink
  | .lift _ => true

/-- A kind is raised: its pair enters the set of every link within scope (R164). -/
def State.raise (s : State) (p : EventPair) : State :=
  (allLinks.filter (inScope p)).foldl (fun t l => t.modLink l (Endpoint.raise t.levels p)) s

/-- A per-lane kind is raised. -/
def State.raiseAt (s : State) (k : LaneEvent) (i : LaneNo) : State := s.raise (.atLane k i)

end Sys2Proof.Machine
end

