-- ==== Sys2Proof/Machine/Operands.lean ====
section
/-! DEFINITION. Reading the operands of requests: ranges (R3, R37), named values (R170) and clamping (R77, R125, R133). -/

namespace Sys2Proof.Machine

/-- A pass number in range (R3). -/
def passNumberOk (n : Nat) : Bool := 1 ≤ n && n ≤ 4294967294

/-- A tariff class in range (R3). -/
def classOk (n : Nat) : Bool := n ≤ 7

/-- Days bought in range (R3). -/
def daysOk (n : Nat) : Bool := 1 ≤ n && n ≤ 30

/-- A paid amount in range (R3). -/
def paidOk (n : Nat) : Bool := n ≤ 1048575

/-- A day number in range (R3). -/
def dayOk (n : Nat) : Bool := 1 ≤ n && n ≤ 65535

/-- A last valid day against a first valid day (R3). -/
def windowOk (firstDay lastDay : Nat) : Bool := firstDay ≤ lastDay && lastDay ≤ firstDay + 364

/-- The class a class number names. -/
def classIndex (n : Nat) : Option (Fin 8) := if h : n < 8 then some ⟨n, h⟩ else none

/-- The tariff class record a pass's class names; a class out of range, which no record holds (R2), names the cold one. -/
def State.tariffOf (s : State) (cls : Nat) : Tariff :=
  match classIndex cls with
  | some k => s.tariffs.get k
  | none => Tariff.cold

/-- The kind a byte of MERGE USE names (R178). -/
def kindOf (n : Nat) : Option DayKind := if n = 0 then some .full else if n = 1 then some .half else none

/-- The lift state a byte of SET LIFT names (R178). -/
def liftStateOf (n : Nat) : Option LiftState := if n = 0 then some .running else if n = 1 then some .stopped else none

/-- The mode a byte of SET PACING names (R178). -/
def modeOf (n : Nat) : Option PacingMode := if n = 0 then some .paced else if n = 1 then some .free else none

/-- A new value of AMEND PASS, carried when its bit of the presence byte is set (R178). -/
def carried (presence bit value : Nat) : Option Nat := if presence.testBit bit then some value else none

/-- The first field of SET TARIFF out of range, the class number first (R38). -/
def tariffBad (cls : Nat) (t : Tariff) : Option TariffField :=
  if ¬ classOk cls then some .classNumber
  else if 65535 < t.rate then some .rate
  else if 1440 < t.halfMinute then some .halfMinute
  else if 10000 < t.fraction then some .fraction
  else if 65535 < t.fee then some .fee
  else if t.quantum < 1 ∨ 1000 < t.quantum then some .quantum
  else if 60 < t.hold then some .hold
  else none

/-- The kind order of R162, as the levels of SET LEVELS are carried. -/
def Levels.toList (v : Levels) : List Nat :=
  [v.passage, v.backout, v.creditEnded, v.laneReady, v.untaggedRider, v.beamBlocked, v.linkSilent, v.laneFault,
    v.carrierRegained, v.dayState, v.carrierLost]

/-- The place of the first level above 7 (R163). -/
def levelBad (v : Levels) : Option Nat := (Levels.toList v).findIdx? fun n => 7 < n

/-- A value stored as the nearer limit of its range (00_scope.md "Clamped"). -/
def clamp (lo hi v : Nat) : Nat := if v < lo then lo else if hi < v then hi else v

/-- R77: each setting clamped to its range, the beam levels each against the one stored before it. -/
def clampConfig (c : LaneConfig) : LaneConfig :=
  let broken := clamp 0 4095 c.brokenLevel
  let clear := clamp (broken + 1) 4096 c.clearLevel
  { settleTime := clamp 10 2000 c.settleTime
    unlockWidth := clamp 1000 10000 c.unlockWidth
    creditLife := clamp 5 120 c.creditLife
    silenceLimit := clamp 1 30 c.silenceLimit
    passageLimit := clamp 2 60 c.passageLimit
    brokenLevel := broken
    clearLevel := clear
    faultLevel := clamp (clear + 1) 4097 c.faultLevel
    blockedLimit := clamp 1 60 c.blockedLimit }

/-- R125: the settings clamped in table order, each against those stored before it. -/
def clampPacing (p : PacingSettings) : PacingSettings :=
  let lo := clamp 2000 60000 p.intervalMin
  let hi := clamp (lo + 1) 120000 p.intervalMax
  { intervalMin := lo
    intervalMax := hi
    nominal := clamp lo hi p.nominal
    cutoffPercent := clamp 10 100 p.cutoffPercent
    leadOffset := clamp 0 60000 p.leadOffset }

end Sys2Proof.Machine
end

