-- ==== Sys2Proof/Machine/Release.lean ====
section
/-! DEFINITION. Releasing a credit and starting its unlock: R92, R135 to R137. -/

namespace Sys2Proof.Machine

/-- The lane's head credit is in HOLDING. -/
def LaneUnit.headHolding (u : LaneUnit) : Bool :=
  match u.queue with
  | c :: _ => c.state = .holding
  | [] => false

/-- The head credit's unlock may start at this clock time: RELEASED, its earliest unlock time come, the rotor at HOME
(R92). -/
def LaneUnit.unlockDue (u : LaneUnit) (now : Nat) : Bool :=
  match u.queue with
  | c :: _ => c.state = .released && u.tracker = .home && c.earliestUnlock.any (· ≤ now)
  | [] => false

/-- The unlock start of the head credit (R92). -/
def LaneUnit.startUnlock (u : LaneUnit) (now : Nat) : LaneUnit :=
  { u.modHead fun c =>
      { c with state := .unlocked, unlockStart := some now, unlockEnd := some (now + u.config.unlockWidth) } with
    unlockOut := true }

/-- The unlock starts if its conditions hold at this event (R92). -/
def State.tryUnlock (s : State) (i : LaneNo) : State :=
  if (s.lane i).unlockDue s.clock then s.modLane i fun u => u.startUnlock s.clock else s

/-- The release of a credit (R136, R137): release time, slot number, earliest unlock time, the credit-life timer stopped. -/
def Credit.release (now : Nat) (slot : Option Nat) (earliest : Nat) (c : Credit) : Credit :=
  { c with state := .released, releasedAt := some now, slot := slot, earliestUnlock := some earliest, lifeEnd := none }

/-- A slot takes releases now: PACED, RUNNING, TRACKING, before its cutoff end, with a seat left (R135). -/
def State.openSlot (s : State) : Option Slot :=
  match s.pacer.slot with
  | none => none
  | some k =>
    if s.pacer.mode = .paced ∧ s.pacer.lift = .running ∧ s.pacer.tracking = .tracking ∧ s.clock < k.cutoffEnd ∧
        k.released < k.capacity then some k else none

/-- The grant clock time of the lane's head credit, when it is in HOLDING. -/
def LaneUnit.waitingSince (u : LaneUnit) : Option Nat :=
  match u.queue with
  | c :: _ => if c.state = .holding then some c.grantedAt else none
  | [] => none

/-- Of two eligible lanes the one whose grant is earlier; the first on equal times (R135). -/
def earlier (a b : Option (Nat × LaneNo)) : Option (Nat × LaneNo) :=
  match a, b with
  | some x, some y => if y.1 < x.1 then some y else some x
  | none, y => y
  | x, none => x

/-- The lane whose HOLDING head has the earliest grant, the lower lane on equal times (R135). -/
def State.nextLane (s : State) : Option LaneNo :=
  ((allLanes.map fun i => (s.lane i).waitingSince.map fun t => (t, i)).foldl earlier none).map Prod.snd

/-- The head credit of a lane is released into a slot (R136). -/
def State.releaseInto (s : State) (k : Slot) (i : LaneNo) : State :=
  let s := s.modLane i fun u => u.modHead (Credit.release s.clock (some k.number) (max s.clock k.earliestUnlock))
  let s := { s with pacer := { s.pacer with
    slot := some { k with released := k.released + 1 }
    counts := { s.pacer.counts with seatsReleased := satAdd s.pacer.counts.seatsReleased 1 } } }
  s.tryUnlock i

/-- At most `n` releases of one arbitration, one at a time in the order of R135. -/
def arbitrateUpTo : Nat → State → State
  | 0, s => s
  | n + 1, s =>
    match s.openSlot, s.nextLane with
    | some k, some i => arbitrateUpTo n (s.releaseInto k i)
    | _, _ => s

/-- Release arbitration (R135, R136): each of the six lanes has one head credit to release. -/
def State.arbitrate (s : State) : State := arbitrateUpTo 6 s

/-- The FREE release of a lane's HOLDING head, with the lift RUNNING and the rotor at HOME; its unlock starts in the same
event (R137). -/
def State.freeRelease (s : State) (i : LaneNo) : State :=
  if (s.lane i).headHolding ∧ s.pacer.lift = .running ∧ (s.lane i).tracker = .home then
    (s.modLane i fun u => u.modHead (Credit.release s.clock none s.clock)).tryUnlock i
  else s

/-- Every lane's FREE release (R126, R127). -/
def State.freeReleaseAll (s : State) : State := allLanes.foldl State.freeRelease s

/-- A credit that became a HOLDING head is offered for release (R69, R136, R137). -/
def State.offer (s : State) (i : LaneNo) : State :=
  if (s.lane i).headHolding then
    match s.pacer.mode with
    | .paced => s.arbitrate
    | .free => s.freeRelease i
  else s

/-- Credits in HOLDING over the six lanes. -/
def State.holdingCount (s : State) : Nat :=
  (s.lanes.toList.map fun u => u.queue.countP fun c => c.state = .holding).sum

end Sys2Proof.Machine
end

