-- ==== Sys2Proof/Machine/CreditEnd.lean ====
section
/-! DEFINITION. The end of a credit with all its effects (R103), withdrawals (R116), the close of the day (R49), the moves
of a lane to OFF, SETTLING and FAULT (R79, R94, R95), and its later causes. -/

namespace Sys2Proof.Machine

/-! ## The day reaches CLOSED (R48, R49) -/

/-- Sum over the six lanes of a count, saturating (R49). -/
def State.sumCounts (s : State) (f : LaneCounts → Nat) : Nat :=
  satAdd ((s.lanes.toList.map fun u => f u.counts).sum) 0

/-- The day reaches CLOSED: the DAY CLOSED record with the day that was current and the two totals, and DAY STATE (R49). -/
def State.closeNow (s : State) : State :=
  let body := JournalBody.dayClosed s.currentDay (s.sumCounts LaneCounts.passages)
    (s.sumCounts fun c => c.tailgates + c.forced)
  ({ s with day := .closed }.append body).raise (.lift .dayState)

/-- R48: a CLOSING day whose last credit has left becomes CLOSED. -/
def State.closeIfDrained (s : State) : State := if s.day = .closing ∧ s.allEmpty then s.closeNow else s

/-! ## Moves of a lane (R79) -/

/-- Entry to OFF, with every effect of R79 and R97; fault record, link state, configuration and counts stay. -/
def LaneUnit.toOff (u : LaneUnit) : LaneUnit :=
  { u with
    gate := .off, sensorPower := false, unlockOut := false, tracker := .notRead, rotation := none, beam := none,
    lastSample := none, firstSample := true, settleEnd := none, passageFrom := none, blockedFrom := none,
    silenceEnd := none }

/-- Entry to SETTLING, or its restart: the settle timer starts, tracker and classifier stop (R79, R82). -/
def LaneUnit.toSettling (now : Nat) (u : LaneUnit) : LaneUnit :=
  { u with
    gate := .settling, sensorPower := true, unlockOut := false, tracker := .notRead, rotation := none, beam := none,
    firstSample := true, settleEnd := some (now + u.config.settleTime), passageFrom := none, blockedFrom := none }

/-- A CLOSING lane with an empty queue and the rotor at HOME goes to OFF (R84). -/
def LaneUnit.offIfDrained (u : LaneUnit) : LaneUnit :=
  if u.gate = .closing ∧ u.queue = [] ∧ u.tracker = .home then u.toOff else u

/-! ## The end of a credit (R103) -/

/-- Step 2 of R103: the pass's list and generation follow a first-use link (R27, R28). -/
def State.settleLink (s : State) (c : Credit) (o : CreditOutcome) : State :=
  if c.firstUse.isSome then
    s.modPass c.pass fun p =>
      { p with
        uses := if o = .passed then finaliseUses p.uses else removeTentative p.uses
        generation := bump p.generation }
  else s

/-- Step 3 of R103: last passage and passback hold end (R106). -/
def State.writePassage (s : State) (i : LaneNo) (c : Credit) : State :=
  s.modPass c.pass fun p =>
    { p with
      lastPassage := some { day := s.currentDay, timeOfDay := s.timeOfDay, lane := i }
      holdEnd := some (s.clock + (s.tariffOf p.cls).hold * 60000) }

/-- Step 4 of R103: the lane's count of the outcome (R119). -/
def LaneCounts.countOutcome (c : LaneCounts) : CreditOutcome → LaneCounts
  | .passed => { c with passages := satAdd c.passages 1 }
  | .expiredUnreleased => { c with expiredUnreleased := satAdd c.expiredUnreleased 1 }
  | .expiredUnused => { c with expiredUnused := satAdd c.expiredUnused 1 }
  | .withdrawn _ => { c with withdrawn := satAdd c.withdrawn 1 }

/-- The rotation time of the open rotation record: MID capture minus leave capture (R107). -/
def LaneUnit.rotationTime (u : LaneUnit) : Nat :=
  match u.rotation with
  | some r => r.midAt.getD r.leaveAt - r.leaveAt
  | none => 0

/-- A lane unit without the credit at a place of its queue. The unlock output drops with a credit that holds it: one that
is UNLOCKED, or PASSING (R87, R88, R93). -/
def LaneUnit.dequeue (u : LaneUnit) (place : Nat) (c : Credit) : LaneUnit :=
  { u with
    queue := u.queue.eraseIdx place
    unlockOut := if c.state = .unlocked ∨ c.state = .passing then false else u.unlockOut }

/-- The end of the credit at a place of a lane's queue with an outcome other than WITHDRAWN START: the nine steps of R103,
but for the offer of a new head, which the event makes (R116). -/
def State.endCredit (s : State) (i : LaneNo) (place : Nat) (o : CreditOutcome) : State :=
  match (s.lane i).queue[place]? with
  | none => s
  | some c =>
    let removed : Bool := c.firstUse.isSome && o ≠ .passed
    let rotation := (s.lane i).rotationTime
    let s := s.modLane i fun u => u.dequeue place c
    let s := s.settleLink c o
    let s := if o = .passed then s.writePassage i c else s
    let s := s.modLane i fun u =>
      { u with counts := u.counts.countOutcome o, lastEnded := some (c.number, o) }
    let s := if o = .passed then s.append (.passage i c.pass c.number c.firstUse c.slot rotation) else s
    let s := s.append (.creditEnded i c.pass c.number o removed)
    let s := if o = .passed then s.raiseAt .passage i else s
    let s := s.raiseAt .creditEnded i
    let s := s.modLane i fun u => u.follow.offIfDrained
    s.closeIfDrained

/-- The head's end in an event that ends no other credit: a second credit becomes the head and is offered (R69, R103). -/
def State.endHead (s : State) (i : LaneNo) (o : CreditOutcome) : State := (s.endCredit i 0 o).offer i

/-- The withdrawals of one event in one lane, head first (R116): each credit of the queue as it stood that the event
withdraws. -/
def withdrawFrom (i : LaneNo) (cause : Cause) (which : Credit → Bool) : List Credit → Nat → State → State
  | [], _, s => s
  | c :: cs, place, s =>
    if which c then withdrawFrom i cause which cs place (s.endCredit i place (.withdrawn cause))
    else withdrawFrom i cause which cs (place + 1) s

/-- The withdrawals of one event in one lane (R116). -/
def State.withdraw (s : State) (i : LaneNo) (cause : Cause) (which : Credit → Bool) : State :=
  withdrawFrom i cause which (s.lane i).queue 0 s

/-- How many credits of a lane an event withdraws. -/
def State.countCredits (s : State) (i : LaneNo) (which : Credit → Bool) : Nat := (s.lane i).queue.countP which

/-- HOLDING, or RELEASED with its unlock not begun (R15, R47). -/
def Credit.notUnlocked (c : Credit) : Bool := c.state = .holding || c.state = .released

/-- HOLDING, RELEASED or UNLOCKED: not PASSING (R83, R98). -/
def Credit.notPassing (c : Credit) : Bool := c.state ≠ .passing

/-! ## Faults (R94, R95) -/

/-- The entry to FAULT (R94). -/
def State.enterFault (s : State) (i : LaneNo) (cause : FaultCause) : State :=
  let s := s.modLane i fun u => { u with gate := .fault }
  let s := s.withdraw i .laneFault fun _ => true
  let s := s.modLane i fun u =>
    { u with unlockOut := false, fault := some { first := cause, faultAt := s.clock, later := none, count := 1 } }
  (s.append (.laneFault i cause none)).raiseAt .laneFault i

/-- A cause detected in FAULT (R95). -/
def State.laterCause (s : State) (i : LaneNo) (cause : FaultCause) : State :=
  match (s.lane i).fault with
  | none => s
  | some r =>
    let s := s.modLane i fun u =>
      { u with fault := some { r with later := some cause, count := min (r.count + 1) 65535 } }
    (s.append (.laneFault i r.first (some cause))).raiseAt .laneFault i

/-- A cause detected: entry to FAULT, or a later cause in FAULT (R89, R90). -/
def State.detect (s : State) (i : LaneNo) (cause : FaultCause) : State :=
  if (s.lane i).gate = .fault then s.laterCause i cause else s.enterFault i cause

end Sys2Proof.Machine
end

