-- ==== Sys2Proof/Machine/LaneEvents.lean ====
section
/-! DEFINITION. The events of a lane unit: rotor, beam, settle, unlock and the lane's timers (R82, R85 to R98, R105, R109
to R114). -/

namespace Sys2Proof.Machine

/-! ## The rotor leaves HOME (R86) -/

/-- The rotation a leave opens: CREDITED while the lane is UNLOCKED, else FORCED; beam entries start at 1 with the beam
BROKEN (R85, R86). -/
def LaneUnit.leaveRecord (u : LaneUnit) (now : Nat) : Rotation :=
  { kind := if u.gate = .unlocked then (u.queue.head?.elim .forced fun c => .credited c.number) else .forced
    leaveAt := now, midAt := none, beamEntries := if u.beam = some .broken then 1 else 0, endPassed := false,
    committed := false }

/-- R86. -/
def LaneUnit.leave (now : Nat) (u : LaneUnit) : LaneUnit :=
  if u.tracker = .home then
    let u' : LaneUnit := { u with
      tracker := .awayFirst, rotation := some (u.leaveRecord now), passageFrom := some now, blockedFrom := none }
    if u.gate = .unlocked then u'.modHead fun c => { c with state := .passing } else u'
  else u

/-- ROTOR_LEAVE: the HOME switch becomes inactive (R85, R86). -/
def execRotorLeave (i : LaneNo) (s : State) : Result :=
  whenRunning s fun s => s.modLane i (LaneUnit.leave s.clock)

/-! ## MID (R87, R105) -/

/-- The rotation of a lane is CREDITED and its credit is still the PASSING head (R87). -/
def LaneUnit.passingHead (u : LaneUnit) : Bool :=
  match u.rotation, u.queue with
  | some r, c :: _ => r.kind = .credited c.number && c.state = .passing
  | _, _ => false

/-- The MID capture and the move to AWAY-SECOND, with the mark of a commit (R87). -/
def LaneUnit.markMid (now : Nat) (u : LaneUnit) : LaneUnit :=
  { u with
    tracker := .awaySecond
    rotation := u.rotation.map fun r => { r with midAt := some now, committed := u.passingHead } }

/-- MID: the MID switch becomes active; ignored but in AWAY-FIRST (R85, R87, R105). -/
def execMid (i : LaneNo) (s : State) : Result :=
  whenRunning s fun s =>
    if (s.lane i).tracker = .awayFirst then
      let marked := s.modLane i (LaneUnit.markMid s.clock)
      if (s.lane i).passingHead then marked.endHead i .passed else marked
    else s

/-! ## Return to HOME (R88, R109 to R112, R137) -/

/-- An untagged rider is counted, journaled and raised (R110, R111). -/
def State.countUntagged (s : State) (i : LaneNo) (cause : UntaggedCause) : State :=
  let s := s.modLane i fun u =>
    { u with counts :=
      match cause with
      | .tailgate => { u.counts with tailgates := satAdd u.counts.tailgates 1 }
      | .forced => { u.counts with forced := satAdd u.counts.forced 1 } }
  (s.append (.untagged i cause)).raiseAt .untaggedRider i

/-- The pass of a BACKOUT record: that of the credit a CREDITED record names, while it is still in the queue (R112). -/
def LaneUnit.backoutPass (u : LaneUnit) (r : Rotation) : Option Nat :=
  match r.kind with
  | .credited n => (u.queue.find? fun c => c.number = n).map Credit.pass
  | .forced => none

/-- A backout is counted, journaled and raised (R112). -/
def State.countBackout (s : State) (i : LaneNo) (r : Rotation) : State :=
  let pass := (s.lane i).backoutPass r
  let s := s.modLane i fun u => { u with counts := { u.counts with backouts := satAdd u.counts.backouts 1 } }
  (s.append (.backout i pass)).raiseAt .backout i

/-- What a closed rotation record is counted as, by the tracker state it leaves (R109). -/
def State.countRotation (s : State) (i : LaneNo) (left : Tracker) (r : Rotation) : State :=
  if left = .awayFirst then s.countBackout i r
  else
    let s := if r.committed then s else s.countUntagged i .forced
    if 2 ≤ r.beamEntries then s.countUntagged i .tailgate else s

/-- What a backout does to a credit that is still the PASSING head (R88). -/
def State.backoutCredit (s : State) (i : LaneNo) (r : Rotation) : State :=
  if (s.lane i).gate = .closing then s.endHead i (.withdrawn .laneClosed)
  else if r.endPassed then s.endHead i .expiredUnused
  else if (s.lane i).link = .silent then s.endHead i (.withdrawn .laneSilent)
  else s.modLane i fun u => u.modHead fun c => { c with state := .unlocked }

/-- The tracker at HOME, the record closed and the passage limit timer stopped (R88). -/
def LaneUnit.atHome (u : LaneUnit) : LaneUnit := { u with tracker := .home, rotation := none, passageFrom := none }

/-- The beam blocked timer starts when classifier, HOME and BROKEN come together (R91). -/
def LaneUnit.watchBeam (now : Nat) (u : LaneUnit) : LaneUnit :=
  if u.tracker = .home ∧ u.beam = some .broken then { u with blockedFrom := some now } else u

/-- Step 4 of R109: the unlock start of a RELEASED head, or in FREE mode the release of a HOLDING one (R92, R137). -/
def State.homeRelease (s : State) (i : LaneNo) : State :=
  let s := s.tryUnlock i
  if s.pacer.mode = .free then s.freeRelease i else s

/-- The return of the rotor, in the order of R109. -/
def State.returnHome (s : State) (i : LaneNo) (r : Rotation) : State :=
  let left := (s.lane i).tracker
  let held : Bool := left = .awayFirst && (s.lane i).passingHead
  let s := s.modLane i LaneUnit.atHome
  let s := s.countRotation i left r
  let s := if held then s.backoutCredit i r else s
  let s := s.modLane i LaneUnit.offIfDrained
  let s := s.homeRelease i
  s.modLane i (LaneUnit.watchBeam s.clock)

/-- RETURN_TO_HOME: the HOME switch becomes active (R85, R88, R109). -/
def execReturnToHome (i : LaneNo) (s : State) : Result :=
  whenRunning s fun s =>
    if (s.lane i).tracker = .awayFirst ∨ (s.lane i).tracker = .awaySecond then
      match (s.lane i).rotation with
      | some r => s.returnHome i r
      | none => s
    else s

/-! ## The beam (R90, R91) -/

/-- The classification after a sample (R90). -/
def classify (c : LaneConfig) (level : Nat) (before : Beam) : Beam :=
  if level ≤ c.brokenLevel then .broken
  else if level < c.clearLevel then before
  else if level < c.faultLevel then .clear
  else before

/-- A change of classification from CLEAR to BROKEN adds a beam entry, a count that saturates, to an open record and, at
HOME, starts the beam blocked timer; CLEAR stops the timer (R85, R90, R91). -/
def LaneUnit.reclassify (now : Nat) (before after : Beam) (u : LaneUnit) : LaneUnit :=
  if before = .clear ∧ after = .broken then
    let u' : LaneUnit := { u with
      beam := some .broken, rotation := u.rotation.map fun r => { r with beamEntries := satAdd r.beamEntries 1 } }
    u'.watchBeam now
  else if after = .clear then { u with beam := some .clear, blockedFrom := none }
  else { u with beam := some after }

/-- A sample detects a BEAM FAULT cause: at or above the fault level, the previous sample below it or none taken since the
classifier started (R90; log 11). -/
def LaneUnit.beamFaultBy (u : LaneUnit) (level : Nat) : Bool :=
  u.config.faultLevel ≤ level && (u.firstSample || u.lastSample.all fun p => p.level < u.config.faultLevel)

/-- BEAM_SAMPLE: one sample, taken while the classifier runs (R90; log 12). -/
def execBeamSample (i : LaneNo) (level : Nat) (s : State) : Result :=
  whenRunning s fun s =>
    match (s.lane i).beam with
    | none => s
    | some before =>
      let fault := (s.lane i).beamFaultBy level
      let t := s.modLane i fun u =>
        { u.reclassify s.clock before (classify u.config level before) with
          lastSample := some { level := level, takenAt := s.clock }, firstSample := false }
      if fault then t.detect i .beamFault else t

/-- BEAM_BLOCKED_EXPIRY: the timer has run past the beam blocked limit; it fires once (R91). -/
def execBeamBlockedExpiry (i : LaneNo) (s : State) : Result :=
  whenRunning s fun s =>
    match (s.lane i).blockedFrom with
    | none => s
    | some t =>
      let s := s.waitUntil (t + (s.lane i).config.blockedLimit * 1000 + 1)
      let s := s.modLane i fun u => { u with blockedFrom := none }
      (s.append (.beamBlocked i)).raiseAt .beamBlocked i

/-! ## Settling (R82) -/

/-- The settle end with the HOME switch active: tracker at HOME, classifier at CLEAR, the lane READY (R82). -/
def LaneUnit.settledHome (u : LaneUnit) : LaneUnit :=
  { u with gate := .ready, settleEnd := none, tracker := .home, rotation := none, beam := some .clear, firstSample := true }

/-- The settle end with the HOME switch inactive: AWAY-FIRST with an open FORCED record, the passage limit timer running
(R82). -/
def LaneUnit.settledAway (now : Nat) (u : LaneUnit) : LaneUnit :=
  { u with
    settleEnd := none, tracker := .awayFirst, beam := some .clear, firstSample := true, passageFrom := some now
    rotation := some
      { kind := .forced, leaveAt := now, midAt := none, beamEntries := 0, endPassed := false, committed := false } }

/-- SETTLE_EXPIRY (R82). -/
def execSettleExpiry (i : LaneNo) (homeActive : Bool) (s : State) : Result :=
  whenRunning s fun s =>
    match (s.lane i).settleEnd with
    | none => s
    | some t =>
      let s := s.waitUntil t
      if homeActive then (s.modLane i LaneUnit.settledHome).raiseAt .laneReady i
      else (s.modLane i (LaneUnit.settledAway s.clock)).enterFault i .rotorNotHome

/-! ## Credit life and unlock (R92, R93, R113) -/

/-- The place of the HOLDING credit with this number, and its credit-life end (R113). -/
def lifeOf (n : Nat) : List Credit → Nat → Option (Nat × Nat)
  | [], _ => none
  | c :: cs, k =>
    if c.number = n ∧ c.state = .holding then c.lifeEnd.map fun t => (k, t) else lifeOf n cs (k + 1)

/-- CREDIT_LIFE_EXPIRY (R113): a head's end offers the second credit. -/
def execCreditLifeExpiry (i : LaneNo) (credit : Nat) (s : State) : Result :=
  whenRunning s fun s =>
    match lifeOf credit (s.lane i).queue 0 with
    | none => s
    | some (place, t) =>
      let s := s.waitUntil t
      if place = 0 then s.endHead i .expiredUnreleased else s.endCredit i place .expiredUnreleased

/-- UNLOCK_START: the earliest unlock time of the RELEASED head comes, with the rotor at HOME (R92). -/
def execUnlockStart (i : LaneNo) (s : State) : Result :=
  whenRunning s fun s =>
    match (s.lane i).queue.head? with
    | none => s
    | some c =>
      match c.state, c.earliestUnlock, (s.lane i).tracker with
      | .released, some t, .home => (s.waitUntil t).tryUnlock i
      | _, _, _ => s

/-- The open record of the head's rotation marks the unlock end as passed (R93). -/
def LaneUnit.markEndPassed (u : LaneUnit) : LaneUnit :=
  { u with rotation := u.rotation.map fun r => { r with endPassed := true } }

/-- UNLOCK_END: an UNLOCKED credit ends EXPIRED UNUSED; a PASSING one only has its rotation marked (R93, R114). -/
def execUnlockEnd (i : LaneNo) (s : State) : Result :=
  whenRunning s fun s =>
    match (s.lane i).queue.head? with
    | none => s
    | some c =>
      match c.state, c.unlockEnd with
      | .unlocked, some t => (s.waitUntil t).endHead i .expiredUnused
      | .passing, some t => (s.waitUntil t).modLane i LaneUnit.markEndPassed
      | _, _ => s

/-! ## Passage limit and silence (R89, R98) -/

/-- PASSAGE_LIMIT_EXPIRY: the time away from HOME has exceeded the limit; fires once per time away (R89). -/
def execPassageLimitExpiry (i : LaneNo) (s : State) : Result :=
  whenRunning s fun s =>
    match (s.lane i).passageFrom with
    | none => s
    | some t =>
      let s := s.waitUntil (t + (s.lane i).config.passageLimit * 1000 + 1)
      (s.modLane i fun u => { u with passageFrom := none }).detect i .rotorStuck

/-- SILENCE_EXPIRY: the lane link falls silent, and every credit not PASSING is withdrawn (R98). -/
def execSilenceExpiry (i : LaneNo) (s : State) : Result :=
  whenRunning s fun s =>
    match (s.lane i).silenceEnd with
    | none => s
    | some t =>
      let s := s.waitUntil t
      let s := s.modLane i fun u => { u with link := .silent, silenceEnd := none }
      let n := s.countCredits i Credit.notPassing
      let s := s.withdraw i .laneSilent Credit.notPassing
      (s.append (.linkSilent i n)).raiseAt .linkSilent i

end Sys2Proof.Machine
end

