-- ==== Sys2Proof/Machine/LinkInterface.lean ====
section
/-! DEFINITION. The Link Interface: taking a frame, the request slot, BUSY and the output queues (R97, R172 to R177). -/

namespace Sys2Proof.Machine

/-- Answers that hold no request slot (R174). -/
def OutAnswer.isBusy (a : OutAnswer) : Bool :=
  match a.answer with
  | .busy _ _ => true
  | _ => false

/-- A request's answer enters the output queue and its slot is IN PROGRESS (R173). -/
def Endpoint.pushAnswer (code tag : Nat) (a : Answer) (e : Endpoint) : Endpoint :=
  { e with
    slot := some (code, tag)
    output := e.output ++ [{ code := code, tag := tag, answer := a, begun := false }] }

/-- A BUSY answer enters the output queue in place of one whose sending has not begun (R174). -/
def Endpoint.pushBusy (code tag : Nat) (inProgress : Nat × Nat) (e : Endpoint) : Endpoint :=
  { e with
    output := (e.output.filter fun a => !(a.isBusy && !a.begun)) ++
      [{ code := code, tag := tag, answer := .busy inProgress.2 inProgress.1, begun := false }] }

/-- An answer that is the first of the office link's queue may have the filler byte of R177 before it (log 22). -/
def State.openFiller (s : State) (l : LinkNo) : State :=
  if l = officeLink ∧ (s.link l).output = [] then { s with office := { s.office with fillerOpen := true } } else s

/-- The request's answer goes out on the link that carried it. -/
def State.reply (s : State) (l : LinkNo) (code tag : Nat) (a : Answer) : State :=
  (s.openFiller l).modLink l (Endpoint.pushAnswer code tag a)

/-- A taken frame restarts the silence timer of a lane that is not OFF and makes its link ALIVE (R97). -/
def LaneUnit.revive (now : Nat) (u : LaneUnit) : LaneUnit :=
  { u with
    link := .alive
    silenceEnd := if u.gate = .off then u.silenceEnd else some (now + u.config.silenceLimit * 1000) }

/-- R97 on the link that carried a frame. -/
def State.reviveLink (s : State) (l : LinkNo) : State :=
  match laneOfLink l with
  | some i => s.modLane i (LaneUnit.revive s.clock)
  | none => s

/-- The receiver returns to IDLE, any partial frame gone (R172). -/
def State.idleReceiver (s : State) (l : LinkNo) : State := s.modLink l fun e => { e with receiver := .idle }

/-- A lane link's receiver takes nothing while its driver is enabled (R176). -/
def State.deaf (s : State) (l : LinkNo) : Bool := (s.link l).driver

/-- A frame taken on a link (R173): BUSY, UNKNOWN REQUEST, REFUSED ROLE, or the request acted on and answered. -/
def State.acceptFrame (s : State) (l : LinkNo) (code tag : Nat) (act : State → State × Answer) : State :=
  let s := (s.idleReceiver l).reviveLink l
  match (s.link l).slot with
  | some inProgress => s.modLink l (Endpoint.pushBusy code tag inProgress)
  | none =>
    if bodyLength code = none then s.reply l code tag .unknownRequest
    else if ¬ roleMay code (roleOf l) then s.reply l code tag .refusedRole
    else
      let (t, a) := act s
      t.reply l code tag a

/-- A request frame reaches a link whose receiver takes bytes, in a part that runs (R173, R176, R182). -/
def takeFrame (l : LinkNo) (code tag : Nat) (act : State → State × Answer) (s : State) : Result :=
  whenRunning s fun s => if s.deaf l then s else s.acceptFrame l code tag act

/-- A request about the lane of the link that carries it (R53, R100). -/
def onLinkLane (l : LinkNo) (act : LaneNo → State → State × Answer) (s : State) : State × Answer :=
  match laneOfLink l with
  | some i => act i s
  | none => (s, .refusedRole)

/-- A console request that carries a lane number: above 5 it is OUT OF RANGE (R75). -/
def onLane (lane : Nat) (act : LaneNo → State → State × Answer) (s : State) : State × Answer :=
  match laneOf lane with
  | some i => act i s
  | none => (s, .outOfRange)

/-- A request that changes nothing and reports. -/
def report (f : State → Answer) (s : State) : State × Answer := (s, f s)

end Sys2Proof.Machine
end

