-- ==== Sys2Proof/Machine/Admission.lean ====
section
/-! DEFINITION. Admission: PRESENT, its twelve checks and the grant (R53 to R70). -/

namespace Sys2Proof.Machine

/-- R56: the gate states that cannot serve. -/
def GateState.notInService (g : GateState) : Bool := !g.inService

/-- R58: one more deny for a reason. -/
def DenyCounts.add (d : DenyCounts) : DenyReason → DenyCounts
  | .dayClosed => { d with dayClosed := satAdd d.dayClosed 1 }
  | .unknownPass => { d with unknownPass := satAdd d.unknownPass 1 }
  | .checkMismatch => { d with checkMismatch := satAdd d.checkMismatch 1 }
  | .blocked => { d with blocked := satAdd d.blocked 1 }
  | .surrendered => { d with surrendered := satAdd d.surrendered 1 }
  | .notYetValid => { d with notYetValid := satAdd d.notYetValid 1 }
  | .expired => { d with expired := satAdd d.expired 1 }
  | .inUse => { d with inUse := satAdd d.inUse 1 }
  | .passback => { d with passback := satAdd d.passback 1 }
  | .daysExhausted => { d with daysExhausted := satAdd d.daysExhausted 1 }

/-- A DENY: answered with its detail and counted at the lane (R58). -/
def deny (i : LaneNo) (reason : DenyReason) (detail : Nat) (s : State) : State × Answer :=
  (s.modLane i fun u => { u with counts := { u.counts with denies := u.counts.denies.add reason } }, .deny reason detail)

/-- The place of a day state in R44, as the detail of DAY CLOSED carries it (R58). -/
def DayState.code : DayState → Nat
  | .closed => 0
  | .opened => 1
  | .closing => 2

/-- Steps 5 to 12 of R55 for a pass that was found: the first that denies, with its detail (R58). -/
def passDeny (s : State) (p : Pass) (check : Nat) : Option (DenyReason × Nat) :=
  if check ≠ p.check then some (.checkMismatch, 0)
  else if p.state = .blocked then some (.blocked, 0)
  else if p.state = .surrendered then some (.surrendered, 0)
  else if s.currentDay < p.firstDay then some (.notYetValid, p.firstDay)
  else if p.lastDay < s.currentDay then some (.expired, p.lastDay)
  else
    match s.creditOf p.number with
    | some (lane, _, _) => some (.inUse, lane.val)
    | none =>
      if p.holdEnd.any (s.clock < ·) then some (.passback, (p.holdEnd.getD 0 - s.clock + 999) / 1000)
      else if (findUse s.currentDay p.uses).isNone ∧ p.uses.length = p.days then some (.daysExhausted, p.days)
      else none

/-- The kind of a first use granted now (R26, R43). -/
def firstUseKind (s : State) (p : Pass) : DayKind :=
  if (s.tariffOf p.cls).halfMinute ≤ s.minute then .half else .full

/-- The first-use link a grant gives: the kind on a day not in the list, none otherwise (R26). -/
def firstUse (s : State) (p : Pass) : Option DayKind :=
  if (findUse s.currentDay p.uses).isNone then some (firstUseKind s p) else none

/-- The TENTATIVE entry of a first use enters the list, and the generation rises (R26). -/
def Pass.addTentative (day : Nat) (i : LaneNo) (k : DayKind) (p : Pass) : Pass :=
  { p with
    uses := insertUse { day := day, kind := k, origin := .localAt i, status := .tentative } p.uses
    generation := bump p.generation }

/-- The lane's next credit number after one is taken (R67). -/
def nextNumber (n : Nat) : Nat := if n = 65535 then 1 else n + 1

/-- The credit a grant creates (R66, R70). -/
def newCredit (s : State) (i : LaneNo) (p : Pass) : Credit :=
  { number := (s.lane i).nextCredit, lane := i, pass := p.number, grantedAt := s.clock, firstUse := firstUse s p,
    state := .holding, releasedAt := none, slot := none, earliestUnlock := none, unlockStart := none, unlockEnd := none,
    lifeEnd := some (s.clock + (s.lane i).config.creditLife * 1000) }

/-- A credit at the tail of a lane's queue: number taken, grant counted, gate state followed (R66, R67, R69). -/
def LaneUnit.enqueue (c : Credit) (u : LaneUnit) : LaneUnit :=
  { u with
    nextCredit := nextNumber u.nextCredit
    queue := u.queue ++ [c]
    counts := { u.counts with grants := satAdd u.counts.grants 1 } }.follow

/-- The grant (R66, R68, R69): into an empty queue the new credit is a HOLDING head and is offered for release. -/
def grant (i : LaneNo) (p : Pass) (s : State) : State × Answer :=
  let c := newCredit s i p
  let wasEmpty := (s.lane i).queue = []
  let remaining := p.remaining - (if c.firstUse.isSome then 1 else 0)
  let t :=
    match c.firstUse with
    | some k => s.modPass p.number (Pass.addTentative s.currentDay i k)
    | none => s
  let t := t.modLane i (LaneUnit.enqueue c)
  (if wasEmpty then t.offer i else t, .grant c.number c.firstUse remaining)

/-- PRESENT at a lane: the checks of R55 in order, then the grant. DESIGN CHOICE, log 33: the lift state is no check, by R55's
table and against the last paragraph of R183, so a lift that is STOPPED after a start keeps no credit from being granted. -/
def present (pass check : Nat) (i : LaneNo) (s : State) : State × Answer :=
  let u := s.lane i
  if u.gate.notInService then (s, .notInService u.gate)
  else if s.day ≠ .opened then deny i .dayClosed s.day.code s
  else if Config.queueSize ≤ u.queue.length then (s, .queueFull (u.queue.head?.elim 0 Credit.number))
  else
    match s.findPass pass with
    | none => deny i .unknownPass 0 s
    | some p =>
      match passDeny s p check with
      | some (reason, detail) => deny i reason detail s
      | none => grant i p s

/-- PRESENT (R53, R55). -/
def execPresent (l : LinkNo) (tag pass check : Nat) (s : State) : Result :=
  takeFrame l 1 tag (onLinkLane l (present pass check)) s

end Sys2Proof.Machine
end

