-- ==== Sys2Proof/Machine/Answers.lean ====
section
/-! DEFINITION. The bytes of an answer: status codes (R179), named values and field widths (R170), the layouts of R171,
segments (R175) and frames (R170). Where R171 gives no layout, the fields stand in the order their rule names them, and a
list whose length no field names has its length before it (log 15). -/

namespace Sys2Proof.Machine

/-! ## Named values (R170) -/

/-- The place of a gate state in R79. -/
def GateState.code : GateState → Nat
  | .off => 0
  | .settling => 1
  | .ready => 2
  | .holding => 3
  | .released => 4
  | .unlocked => 5
  | .passing => 6
  | .closing => 7
  | .fault => 8

/-- The place of a credit state in R70. -/
def CreditState.code : CreditState → Nat
  | .holding => 0
  | .released => 1
  | .unlocked => 2
  | .passing => 3

/-- The place of a cause in R72. -/
def Cause.code : Cause → Nat
  | .laneSilent => 0
  | .laneFault => 1
  | .laneClosed => 2
  | .dayClosing => 3
  | .passBlocked => 4
  | .start => 5

/-- The place of an outcome in R72. -/
def CreditOutcome.code : CreditOutcome → Nat
  | .passed => 0
  | .expiredUnreleased => 1
  | .expiredUnused => 2
  | .withdrawn _ => 3

/-- The byte of an outcome's cause, 255 for none. -/
def CreditOutcome.causeCode : CreditOutcome → Nat
  | .withdrawn c => c.code
  | .passed => 255
  | .expiredUnreleased => 255
  | .expiredUnused => 255

/-- The place of a deny reason in R58. -/
def DenyReason.code : DenyReason → Nat
  | .dayClosed => 0
  | .unknownPass => 1
  | .checkMismatch => 2
  | .blocked => 3
  | .surrendered => 4
  | .notYetValid => 5
  | .expired => 6
  | .inUse => 7
  | .passback => 8
  | .daysExhausted => 9

/-- The order of R99. -/
def Tracker.code : Tracker → Nat
  | .home => 0
  | .awayFirst => 1
  | .awaySecond => 2
  | .notRead => 3

def Beam.code : Beam → Nat
  | .broken => 0
  | .clear => 1

/-- The place of a fault cause in R94. -/
def FaultCause.code : FaultCause → Nat
  | .rotorNotHome => 0
  | .rotorStuck => 1
  | .beamFault => 2

def LinkState.code : LinkState → Nat
  | .alive => 0
  | .silent => 1

def LiftState.code : LiftState → Nat
  | .running => 0
  | .stopped => 1

def PacingMode.code : PacingMode → Nat
  | .paced => 0
  | .free => 1

def Tracking.code : Tracking → Nat
  | .tracking => 0
  | .lost => 1

def DayKind.code : DayKind → Nat
  | .full => 0
  | .half => 1

def PassState.code : PassState → Nat
  | .active => 0
  | .blocked => 1
  | .surrendered => 2

def UntaggedCause.code : UntaggedCause → Nat
  | .tailgate => 0
  | .forced => 1

/-- The place of a start kind in R182. -/
def StartKind.code : StartKind → Nat
  | .cold => 0
  | .warm => 1

/-- The place of a start cause in R182. -/
def StartCause.code : StartCause → Nat
  | .powerUp => 0
  | .reset => 1
  | .clearAll => 2

/-- The order of R169's table. -/
def roleCode : Role → Nat
  | .lane => 0
  | .office => 1
  | .console => 2

/-- The place of a merge result in R30. -/
def MergeResult.code : MergeResult → Nat
  | .inserted => 0
  | .finalised => 1
  | .upgraded => 2
  | .noChange => 3

/-- The place of a tariff field in R37; 255 for the class number, which is not in that table (log 15). -/
def TariffField.code : TariffField → Nat
  | .rate => 0
  | .halfMinute => 1
  | .fraction => 2
  | .fee => 3
  | .quantum => 4
  | .hold => 5
  | .classNumber => 255

/-- The place of an event kind in R162. -/
def EventPair.kindCode : EventPair → Nat
  | .atLane k _ => k.index
  | .lift k => k.index

/-- The lane of a pair, 255 for LIFT. -/
def EventPair.laneCode : EventPair → Nat
  | .atLane _ i => i.val
  | .lift _ => 255

/-! ## Fields -/

/-- A presence byte (R170), the over-use flag (R171), or a yes/no or active/inactive mark, for which the spec gives no code: 1
for yes or active, 0 for no or inactive (DESIGN CHOICE, log 15). -/
def boolBytes (b : Bool) : List Byte := be 1 (if b then 1 else 0)

/-- An optional number: presence, then the number, or zeros. -/
def optBytes (w : Nat) (n : Option Nat) : List Byte := boolBytes n.isSome ++ be w (n.getD 0)

/-- A duration in ms without a stated range, 4 bytes (R170). DESIGN CHOICE, log 31: what is sent of one that 4 bytes cannot
hold is a free value. -/
def durationBytes (n : Nat) : List Byte := be 4 (if n < 4294967296 then n else Config.longDuration n)

/-- A named value that may be absent: 255 for none. -/
def orNone (n : Option Nat) : List Byte := be 1 (n.getD 255)

/-- A list under its length. -/
def listBytes {α : Type} (f : α → List Byte) (l : List α) : List Byte := be 1 l.length ++ l.flatMap f

/-- The byte 2 of a day-use entry (R171). -/
def DayUse.flags (u : DayUse) : Nat :=
  (if u.status = .final then 128 else 0) + (if u.kind = .half then 64 else 0) +
    (match u.origin with
      | .merged => 32
      | .localAt i => i.val)

def DayUse.bytes (u : DayUse) : List Byte := be 2 u.day ++ be 1 u.flags

def Pass.loadBytes (p : Pass) : List Byte :=
  be 4 p.number ++ be 2 p.check ++ be 1 p.cls ++ be 1 p.days ++ be 4 p.paid ++ be 2 p.firstDay ++ be 2 p.lastDay

def lastPassageBytes : Option LastPassage → List Byte
  | some x => boolBytes true ++ be 2 x.day ++ be 4 x.timeOfDay ++ be 1 x.lane.val
  | none => List.replicate 8 0#8

def settlementBytes : Option Settlement → List Byte
  | some x => boolBytes true ++ be 4 x.refund ++ be 2 x.settleDay ++ be 1 x.full ++ be 1 x.half ++ be 2 x.generation
  | none => List.replicate 11 0#8

def creditRefBytes : Option (LaneNo × Nat × CreditState) → List Byte
  | some (i, n, st) => boolBytes true ++ be 1 i.val ++ be 2 n ++ be 1 st.code
  | none => List.replicate 5 0#8

/-- READ PASS data (R171). -/
def PassReport.bytes (r : PassReport) : List Byte :=
  r.pass.loadBytes ++ be 1 r.pass.state.code ++ boolBytes r.pass.overUse ++ be 2 r.pass.generation ++
    lastPassageBytes r.pass.lastPassage ++ optBytes 6 r.pass.holdEnd ++ be 4 (r.holdLeft.getD 0) ++
    settlementBytes r.pass.settlement ++ creditRefBytes r.credit ++ be 1 r.pass.uses.length ++ be 1 r.remaining ++
    r.pass.uses.flatMap DayUse.bytes

/-- A credit record (R70). -/
def Credit.bytes (c : Credit) : List Byte :=
  be 2 c.number ++ be 1 c.lane.val ++ be 4 c.pass ++ be 6 c.grantedAt ++ optBytes 1 (c.firstUse.map DayKind.code) ++
    be 1 c.state.code ++ optBytes 6 c.releasedAt ++ optBytes 4 c.slot ++ optBytes 6 c.earliestUnlock ++
    optBytes 6 c.unlockStart ++ optBytes 6 c.unlockEnd

/-- The credit number of a CREDITED rotation (R85). -/
def RotationKind.credit : RotationKind → Option Nat
  | .credited n => some n
  | .forced => none

/-- An open rotation record, or absent: presence; kind, CREDITED 0, FORCED 1; credit number; captures; beam entries; mark
(R85, R99). -/
def rotationBytes : Option Rotation → List Byte
  | some r => boolBytes true ++ boolBytes r.kind.credit.isNone ++ optBytes 2 r.kind.credit ++ be 6 r.leaveAt ++
      optBytes 6 r.midAt ++ be 4 r.beamEntries ++ boolBytes r.endPassed
  | none => List.replicate 23 0#8

def sampleBytes : Option Sample → List Byte
  | some x => boolBytes true ++ be 2 x.level ++ be 6 x.takenAt
  | none => List.replicate 9 0#8

/-- The fault record (R94): presence, first cause, fault time, later cause or 255, and the cause count, 4 bytes as every count
(R170). -/
def faultBytes : Option FaultRecord → List Byte
  | some f => boolBytes true ++ be 1 f.first.code ++ be 6 f.faultAt ++ orNone (f.later.map FaultCause.code) ++ be 4 f.count
  | none => List.replicate 13 0#8

/-- The nine settings, in the widths of R178. -/
def configBytes (c : LaneConfig) : List Byte :=
  be 2 c.settleTime ++ be 2 c.unlockWidth ++ be 1 c.creditLife ++ be 1 c.silenceLimit ++ be 1 c.passageLimit ++
    be 2 c.brokenLevel ++ be 2 c.clearLevel ++ be 2 c.faultLevel ++ be 1 c.blockedLimit

/-- The five pacing settings, in the widths of R178. -/
def pacingBytes (p : PacingSettings) : List Byte :=
  be 4 p.intervalMin ++ be 4 p.intervalMax ++ be 4 p.nominal ++ be 1 p.cutoffPercent ++ be 4 p.leadOffset

def tariffBytes (t : Tariff) : List Byte :=
  be 2 t.rate ++ be 2 t.halfMinute ++ be 2 t.fraction ++ be 2 t.fee ++ be 2 t.quantum ++ be 1 t.hold

/-- The fields of READ LANE, in the order of R99. DESIGN CHOICE, log 15: an absent beam classification is
the one byte 255, and the unlock output is 1 when active. -/
def LaneReport.named (r : LaneReport) : List Byte :=
  be 1 r.gate.code ++ be 1 r.tracker.code ++ rotationBytes r.rotation ++ orNone (r.beam.map Beam.code) ++
    sampleBytes r.lastSample ++ boolBytes r.unlockOut ++ listBytes Credit.bytes r.queue ++ faultBytes r.fault ++
    be 1 r.link.code ++ configBytes r.config ++ be 2 r.nextCredit

/-- READ LANE data. DEDUCED, log 16: the fields of R99, then bytes that no rule lays out and whose values are free, so many
that a full queue gives the 254 bytes of the worked sequence of chapter 10 and reaches two segments (R175). -/
def LaneReport.bytes (r : LaneReport) : List Byte :=
  r.named ++ (List.range Config.laneReportRest).map (Config.laneReportByte r.named)

/-- The eighteen counts, in the order of R119 and R58. -/
def LaneCounts.bytes (c : LaneCounts) : List Byte :=
  [c.grants, c.passages, c.tailgates, c.forced, c.backouts, c.expiredUnreleased, c.expiredUnused, c.withdrawn,
    c.denies.dayClosed, c.denies.unknownPass, c.denies.checkMismatch, c.denies.blocked, c.denies.surrendered,
    c.denies.notYetValid, c.denies.expired, c.denies.inUse, c.denies.passback, c.denies.daysExhausted].flatMap (be 4)

def CountsReport.bytes (r : CountsReport) : List Byte := r.counts.bytes ++ be 1 r.queued

/-- The four lift counts (R139). -/
def LiftCounts.bytes (c : LiftCounts) : List Byte :=
  [c.slotsOpened, c.seatsOffered, c.seatsReleased, c.carrierLosses].flatMap (be 4)

/-- The slot record (R134): its released count takes 4 bytes as every count (R170). -/
def slotBytes : Option Slot → List Byte
  | some k => boolBytes true ++ be 4 k.number ++ be 6 k.openedAt ++ be 1 k.capacity ++ be 4 k.released ++
      be 6 k.cutoffEnd ++ be 6 k.earliestUnlock
  | none => List.replicate 28 0#8

/-- READ LIFT data, in the order of R140. -/
def Pacer.bytes (p : Pacer) (estimate : Nat) : List Byte :=
  be 1 p.lift.code ++ be 1 p.mode.code ++ pacingBytes p.settings ++ be 1 p.activeSeats ++ be 1 p.pendingSeats ++
    be 1 p.tracking.code ++ boolBytes p.watchRunning ++ optBytes 6 p.lastEdge ++ listBytes (be 4) p.history ++
    be 4 estimate ++ slotBytes p.slot ++ be 4 p.lastSlot ++ p.counts.bytes

/-- The fields of R142. -/
def Quote.bytes (q : Quote) : List Byte :=
  be 1 q.cls ++ be 1 q.full ++ be 1 q.half ++ be 4 q.charge ++ be 4 q.residue ++ be 4 q.proRata ++
    be 4 q.afterFraction ++ be 4 q.afterFee ++ be 4 q.refund ++ boolBytes q.overUse ++ be 2 q.generation

/-- A stamp (R170). -/
def stampBytes : Option Stamp → List Byte
  | some x => boolBytes true ++ be 2 x.day ++ be 4 x.timeOfDay
  | none => List.replicate 7 0#8

/-- The place of a record kind in R160. -/
def JournalBody.code : JournalBody → Nat
  | .passage _ _ _ _ _ _ => 0
  | .untagged _ _ => 1
  | .backout _ _ => 2
  | .creditEnded _ _ _ _ _ => 3
  | .beamBlocked _ => 4
  | .linkSilent _ _ => 5
  | .laneFault _ _ _ => 6
  | .settlement _ _ _ _ _ => 7
  | .overuse _ _ => 8
  | .carrierLost => 9
  | .carrierRegained _ => 10
  | .dayOpened _ _ => 11
  | .dayClosed _ _ _ => 12
  | .start _ _ _ _ => 13

/-- The fields of a record, in the order of R160. -/
def JournalBody.bytes : JournalBody → List Byte
  | .passage i pass credit firstUse slot rotation => be 1 i.val ++ be 4 pass ++ be 2 credit ++
      orNone (firstUse.map DayKind.code) ++ optBytes 4 slot ++ durationBytes rotation
  | .untagged i c => be 1 i.val ++ be 1 c.code
  | .backout i pass => be 1 i.val ++ optBytes 4 pass
  | .creditEnded i pass credit o removed => be 1 i.val ++ be 4 pass ++ be 2 credit ++ be 1 o.code ++ be 1 o.causeCode ++
      boolBytes removed
  | .beamBlocked i => be 1 i.val
  | .linkSilent i n => be 1 i.val ++ be 1 n
  | .laneFault i first later => be 1 i.val ++ be 1 first.code ++ orNone (later.map FaultCause.code)
  | .settlement pass refund full half generation => be 4 pass ++ be 4 refund ++ be 1 full ++ be 1 half ++ be 2 generation
  | .overuse pass day => be 4 pass ++ be 2 day
  | .carrierLost => []
  | .carrierRegained gap => durationBytes gap
  | .dayOpened day reopen => be 2 day ++ boolBytes reopen
  | .dayClosed day passed riders => be 2 day ++ be 4 passed ++ be 4 riders
  | .start kind cause withdrawn removed => be 1 kind.code ++ be 1 cause.code ++ be 1 withdrawn ++ be 1 removed

/-- A record: sequence number, stamp, kind and fields (R161). -/
def JournalRecord.bytes (r : JournalRecord) : List Byte := be 4 r.seq ++ stampBytes r.stamp ++ be 1 r.body.code ++ r.body.bytes

/-- The start record (R184); UNKNOWN is the fourth of its day states before. -/
def StartRecord.bytes (r : StartRecord) : List Byte :=
  be 1 r.kind.code ++ be 1 r.cause.code ++ be 1 ((r.dayBefore.map DayState.code).getD 3) ++ be 2 r.lastOpened ++
    be 1 r.withdrawn ++ be 1 r.removed ++ be 4 r.seq

/-- A credit disposition and the fields it carries (R14). DESIGN CHOICE, log 15: only the fields that the value carries are
sent, with no zeros for the others. -/
def Disposition.bytes : Disposition → List Byte
  | .none => be 1 0
  | .withdrawn i n => be 1 1 ++ be 1 i.val ++ be 2 n
  | .running i n st => be 1 2 ++ be 1 i.val ++ be 2 n ++ be 1 st.code

/-- The head credit of LANE STATUS (R171). -/
def headBytes : Option (Nat × CreditState) → List Byte
  | some (n, st) => boolBytes true ++ be 2 n ++ be 1 st.code
  | none => List.replicate 4 0#8

/-- The last ended credit of LANE STATUS; the cause 255 belongs to an outcome without one (R171). -/
def endedBytes : Option (Nat × CreditOutcome) → List Byte
  | some (n, o) => boolBytes true ++ be 2 n ++ be 1 o.code ++ be 1 o.causeCode
  | none => List.replicate 5 0#8

/-- First use today in GRANT data: 0 No, 1 FULL, 2 HALF (R171). -/
def firstUseByte : Option DayKind → Nat
  | none => 0
  | some .full => 1
  | some .half => 2

/-! ## Status and data -/

/-- The status code of an answer (R179). -/
def Answer.status : Answer → Nat
  | .grant _ _ _ => 1
  | .deny _ _ => 2
  | .notInService _ => 3
  | .queueFull _ => 4
  | .merged _ _ _ _ => 5
  | .busy _ _ => 6
  | .refusedRole => 7
  | .unknownRequest => 8
  | .outOfRange => 9
  | .levelOutOfRange _ => 9
  | .tariffOutOfRange _ => 9
  | .unknownPass => 10
  | .duplicate => 11
  | .tableFull => 12
  | .poolFull _ => 13
  | .belowUse _ => 14
  | .settled => 15
  | .settledMerge _ => 15
  | .settledDetail _ _ => 15
  | .creditPending _ _ => 16
  | .outOfWindow _ _ _ => 17
  | .overUse _ _ => 18
  | .stale _ => 19
  | .noDay => 20
  | .dayOpen _ => 21
  | .clockNotSet => 22
  | .dayBehind _ => 23
  | .alreadyClosing _ => 24
  | .alreadyClosed => 25
  | .laneBusy _ => 26
  | .laneStatus _ _ _ => 0
  | .hello _ _ => 0
  | .events _ _ => 0
  | .mask _ _ => 0
  | .levels _ => 0
  | .counts _ _ _ _ _ => 0
  | .journal _ _ _ _ => 0
  | .loaded _ _ _ => 0
  | .amended _ _ => 0
  | .blocked _ => 0
  | .unblocked _ => 0
  | .purged _ => 0
  | .pass _ => 0
  | .quote _ => 0
  | .settledNow _ _ _ _ => 0
  | .tariff _ => 0
  | .clock _ => 0
  | .dayOpened _ _ _ => 0
  | .dayClosing _ _ => 0
  | .day _ _ _ _ _ _ _ _ => 0
  | .start _ => 0
  | .cleared => 0
  | .lift _ _ => 0
  | .seats _ _ => 0
  | .pacing _ _ => 0
  | .pacer _ _ => 0
  | .laneOpened _ _ => 0
  | .laneClosed _ _ => 0
  | .laneCleared _ => 0
  | .configured _ _ => 0
  | .lane _ => 0

/-- The data of an answer (R170, R171). DESIGN CHOICE, log 15, where R171 gives no layout; in OPEN LANE's answer the fault
record keeps its presence byte. -/
def Answer.data : Answer → List Byte
  | .grant n k left => be 2 n ++ be 1 (firstUseByte k) ++ be 1 left
  | .deny reason detail => be 1 reason.code ++ be 2 detail
  | .notInService g => be 1 g.code
  | .queueFull n => be 2 n
  | .laneStatus g head ended => be 1 g.code ++ headBytes head ++ endedBytes ended
  | .hello l r => be 1 l.val ++ be 1 (roleCode r)
  | .events m pairs => be 1 m ++ pairs.flatMap fun p => be 1 p.1.kindCode ++ be 1 p.1.laneCode ++ be 1 p.2
  | .mask m line => be 1 m ++ boolBytes line
  | .levels v => (Levels.toList v).flatMap (be 1)
  | .levelOutOfRange k => be 1 k
  | .counts d last lanes c office => be 1 d.code ++ be 2 last ++ lanes.flatMap CountsReport.bytes ++ c.bytes ++
      office.elim [] fun o => be 2 o.1 ++ be 4 o.2
  | .journal oldest next gap rs => be 4 oldest ++ be 4 next ++ boolBytes gap ++ listBytes JournalRecord.bytes rs
  | .loaded n g free => be 4 n ++ be 2 g ++ be 4 free
  | .amended g free => be 2 g ++ be 4 free
  | .blocked d => d.bytes
  | .unblocked st => be 1 st.code
  | .purged free => be 4 free
  | .pass r => r.bytes
  | .merged r n left g => be 1 r.code ++ be 1 n ++ be 1 left ++ be 2 g
  | .quote q => q.bytes
  | .settledNow q d old g => q.bytes ++ be 2 d ++ be 2 old ++ be 2 g
  | .tariff t => tariffBytes t
  | .tariffOutOfRange f => be 1 f.code
  | .clock t => be 4 t
  | .dayOpened n re t => be 2 n ++ boolBytes re ++ be 4 t
  | .dayClosing d n => be 1 d.code ++ be 1 n
  | .alreadyClosing n => be 1 n
  | .alreadyClosed => []
  | .day d cur last set tod m t queued => be 1 d.code ++ be 2 cur ++ be 2 last ++ boolBytes set ++ be 4 tod ++ be 2 m ++
      be 6 t ++ be 1 queued
  | .start r => r.bytes
  | .cleared => []
  | .lift st n => be 1 st.code ++ n.elim [] (be 1)
  | .seats pending active => be 1 pending ++ be 1 active
  | .pacing m p => be 1 m.code ++ pacingBytes p
  | .pacer p e => p.bytes e
  | .laneOpened g fault => be 1 g.code ++ if g = .fault then faultBytes fault else []
  | .laneClosed g n => be 1 g.code ++ n.elim [] (be 1)
  | .laneCleared g => be 1 g.code
  | .configured c g => configBytes c ++ be 1 g.code
  | .laneBusy n => be 1 n
  | .lane r => r.bytes
  | .outOfRange => []
  | .unknownPass => []
  | .duplicate => []
  | .tableFull => []
  | .poolFull free => be 4 free
  | .belowUse n => be 1 n
  | .settled => []
  | .settledMerge refund => be 4 refund
  | .settledDetail refund d => be 4 refund ++ be 2 d
  | .creditPending i n => be 1 i.val ++ be 2 n
  | .outOfWindow a b c => be 2 a ++ be 2 b ++ be 2 c
  | .overUse d n => be 1 d ++ be 1 n
  | .stale g => be 2 g
  | .noDay => []
  | .dayOpen d => d.elim [] (be 2)
  | .clockNotSet => []
  | .dayBehind d => be 2 d
  | .busy tag code => be 1 tag ++ be 1 code
  | .refusedRole => []
  | .unknownRequest => []

/-! ## Segments and frames (R175) -/

/-- The segment byte: the index, and bit 7 on the last segment (R171). -/
def segmentByte (index : Nat) (last : Bool) : List Byte := be 1 (index + if last then 128 else 0)

/-- The answer frames of data from a segment index on; at most `fuel` of them are not the last. -/
def segmentsFrom (code tag status : Nat) : Nat → Nat → List Byte → List (List Byte)
  | 0, k, d => [frameOf answerMarker code tag (be 1 status ++ segmentByte k true ++ d)]
  | fuel + 1, k, d =>
    if d.length ≤ Config.segmentSize then [frameOf answerMarker code tag (be 1 status ++ segmentByte k true ++ d)]
    else
      frameOf answerMarker code tag (be 1 status ++ segmentByte k false ++ d.take Config.segmentSize) ::
        segmentsFrom code tag status fuel (k + 1) (d.drop Config.segmentSize)

/-- The answer frames of an answer, in the order they leave the link. -/
def OutAnswer.frames (a : OutAnswer) : List (List Byte) :=
  segmentsFrom a.code a.tag a.answer.status a.answer.data.length 0 a.answer.data

/-- The bytes of an answer as they leave the link. -/
def OutAnswer.bytes (a : OutAnswer) : List Byte := a.frames.flatten

end Sys2Proof.Machine
end

