-- ==== Sys2Proof/Machine/DayRequests.lean ====
section
/-! DEFINITION. The office's requests on tariffs, clock and day (R37 to R51), with READ START and CLEAR ALL (R178, R184). -/

namespace Sys2Proof.Machine

/-- SET TARIFF (R38). -/
def setTariff (cls : Nat) (t : Tariff) (s : State) : State × Answer :=
  match tariffBad cls t, classIndex cls with
  | some f, _ => (s, .tariffOutOfRange f)
  | none, none => (s, .tariffOutOfRange .classNumber)
  | none, some k =>
    if s.day ≠ .closed then (s, .dayOpen none)
    else ({ s with tariffs := s.tariffs.set k t }, .tariff t)

/-- READ TARIFF (R39). -/
def readTariff (cls : Nat) (s : State) : State × Answer :=
  match classIndex cls with
  | none => (s, .outOfRange)
  | some k => (s, .tariff (s.tariffs.get k))

/-- The offset that makes the time of day a value now (R41). -/
def offsetFor (time clock : Nat) : Nat := (time + (Config.dayMs - clock % Config.dayMs)) % Config.dayMs

/-- SET CLOCK (R41). -/
def setClock (time : Nat) (s : State) : State × Answer :=
  if Config.dayMs ≤ time then (s, .outOfRange)
  else if s.day ≠ .closed then (s, .dayOpen none)
  else
    let t := { s with offset := offsetFor time s.clock, clockSet := true }
    (t, .clock t.timeOfDay)

/-- What a new day zeroes: lane counts, lift counts and every passback hold end (R46). -/
def State.zeroDay (s : State) : State :=
  { s with
    lanes := s.lanes.map fun u => { u with counts := LaneCounts.zero }
    pacer := { s.pacer with counts := LiftCounts.zero }
    passes := s.passes.map fun p => { p with holdEnd := none } }

/-- A taken OPEN DAY, of a new day or as a reopen (R46). -/
def State.openNow (s : State) (n : Nat) : State :=
  let reopen : Bool := n = s.lastOpened
  let s := if reopen then s else s.zeroDay
  ({ s with day := .opened, lastOpened := n }.append (.dayOpened n reopen)).raise (.lift .dayState)

/-- OPEN DAY (R45, R46). -/
def openDay (n : Nat) (s : State) : State × Answer :=
  if n = 0 ∨ 65535 < n then (s, .outOfRange)
  else if s.day ≠ .closed then (s, .dayOpen (some s.currentDay))
  else if ¬ s.clockSet then (s, .clockNotSet)
  else if n < s.lastOpened then (s, .dayBehind s.lastOpened)
  else (s.openNow n, .dayOpened n (n = s.lastOpened) s.timeOfDay)

/-- CLOSE DAY's withdrawals, lane 0 first (R47, R116). -/
def State.withdrawAll (s : State) : State :=
  allLanes.foldl (fun t i => t.withdraw i .dayClosing Credit.notUnlocked) s

/-- CLOSE DAY (R47, R50). -/
def closeDay (s : State) : State × Answer :=
  match s.day with
  | .closed => (s, .alreadyClosed)
  | .closing => (s, .alreadyClosing s.queued)
  | .opened =>
    let n := (allLanes.map fun i => s.countCredits i Credit.notUnlocked).sum
    let t := { s.withdrawAll with day := .closing }.closeIfDrained
    (t, .dayClosing t.day n)

/-- What READ DAY reports (R51). -/
def dayReport (s : State) : Answer :=
  .day s.day s.currentDay s.lastOpened s.clockSet s.timeOfDay s.minute s.clock (if s.day = .closing then s.queued else 0)

/-- SET_TARIFF (R38). -/
def execSetTariff (l : LinkNo) (tag cls : Nat) (record : Tariff) (s : State) : Result :=
  takeFrame l 25 tag (setTariff cls record) s

/-- READ_TARIFF (R39). -/
def execReadTariff (l : LinkNo) (tag cls : Nat) (s : State) : Result := takeFrame l 26 tag (readTariff cls) s

/-- SET_CLOCK (R41). -/
def execSetClock (l : LinkNo) (tag time : Nat) (s : State) : Result := takeFrame l 27 tag (setClock time) s

/-- OPEN_DAY (R45, R46). -/
def execOpenDay (l : LinkNo) (tag day : Nat) (s : State) : Result := takeFrame l 28 tag (openDay day) s

/-- CLOSE_DAY (R47). -/
def execCloseDay (l : LinkNo) (tag : Nat) (s : State) : Result := takeFrame l 29 tag closeDay s

/-- READ_DAY (R51). -/
def execReadDay (l : LinkNo) (tag : Nat) (s : State) : Result := takeFrame l 30 tag (report dayReport) s

/-- READ_START (R184). -/
def execReadStart (l : LinkNo) (tag : Nat) (s : State) : Result :=
  takeFrame l 31 tag (report fun s => .start s.startRecord) s

/-- CLEAR_ALL: answered OK; its cold start comes when the answer has left the link (R178). -/
def execClearAll (l : LinkNo) (tag : Nat) (s : State) : Result := takeFrame l 32 tag (report fun _ => .cleared) s

end Sys2Proof.Machine
end

