-- ==== Sys2Proof/Machine/LaneRequests.lean ====
section
/-! DEFINITION. Requests on the lanes: OPEN, CLOSE, CLEAR, CONFIGURE and READ LANE, LANE STATUS, HELLO and the unknown
request (R75 to R84, R96, R99, R100, R173, R178). -/

namespace Sys2Proof.Machine

/-- OPEN LANE on a lane (R81). -/
def openLane (i : LaneNo) (s : State) : State × Answer :=
  let u := s.lane i
  match u.gate with
  | .off =>
    (s.modLane i fun u =>
      { u.toSettling s.clock with silenceEnd := some (s.clock + u.config.silenceLimit * 1000) },
      .laneOpened .settling none)
  | .settling => (s, .laneOpened .settling none)
  | .closing =>
    ((s.modLane i fun u => { u with gate := gateOfQueue u.queue }).raiseAt .laneReady i, .laneOpened .ready none)
  | .fault => (s, .laneOpened .fault u.fault)
  | .ready => (s, .laneOpened .ready none)
  | .holding => (s, .laneOpened .ready none)
  | .released => (s, .laneOpened .ready none)
  | .unlocked => (s, .laneOpened .ready none)
  | .passing => (s, .laneOpened .ready none)

/-- DEDUCED, log 30. The rotor of an UNLOCKED lane has left HOME and its leave is the next command waiting: the pair "CLOSE
LANE, and the leave of the UNLOCKED head" of R101, CLOSE LANE taken first. -/
def State.leaveWaits (s : State) (i : LaneNo) : Bool :=
  (s.lane i).gate = .unlocked && s.pending.head? = some (.rotorLeave i)

/-- CLOSE LANE on a lane in service (R83): its five steps. A rotor whose leave waits is not at HOME for step 5, so that the
lane stays CLOSING until that rotation's return (R101; log 30). -/
def State.closeInService (s : State) (i : LaneNo) : State :=
  let waits := s.leaveWaits i
  let s := s.withdraw i .laneClosed Credit.notPassing
  s.modLane i fun u =>
    let u : LaneUnit := { u with gate := .closing }
    if waits then u else u.offIfDrained

/-- CLOSE LANE on a lane (R83). -/
def closeLane (i : LaneNo) (s : State) : State × Answer :=
  let u := s.lane i
  match u.gate with
  | .off => (s, .laneClosed .off none)
  | .settling => (s.modLane i LaneUnit.toOff, .laneClosed .off none)
  | .fault => (s.modLane i LaneUnit.toOff, .laneClosed .off none)
  | .closing => (s, .laneClosed .closing (some u.queue.length))
  | .ready => inService
  | .holding => inService
  | .released => inService
  | .unlocked => inService
  | .passing => inService
where
  inService : State × Answer :=
    let t := s.closeInService i
    (t, .laneClosed (t.lane i).gate (some (s.countCredits i Credit.notPassing)))

/-- CLEAR LANE on a lane (R96). -/
def clearLane (i : LaneNo) (s : State) : State × Answer :=
  if (s.lane i).gate = .fault then (s.modLane i (LaneUnit.toSettling s.clock), .laneCleared .settling)
  else (s, .laneCleared (s.lane i).gate)

/-- The configuration stored, with the silence timer, if it runs, restarted with the new limit (R78). -/
def LaneUnit.store (now : Nat) (c : LaneConfig) (u : LaneUnit) : LaneUnit :=
  { u with config := c, silenceEnd := u.silenceEnd.map fun _ => now + c.silenceLimit * 1000 }

/-- CONFIGURE LANE on a lane (R77, R78). -/
def configureLane (config : LaneConfig) (i : LaneNo) (s : State) : State × Answer :=
  let c := clampConfig config
  let stored := s.modLane i (LaneUnit.store s.clock c)
  let settled := stored.modLane i (LaneUnit.toSettling s.clock)
  match (s.lane i).gate with
  | .off => (stored, .configured c .off)
  | .fault => (stored, .configured c .fault)
  | .settling => (settled, .configured c .settling)
  | .ready => (settled, .configured c .settling)
  | .holding => busy
  | .released => busy
  | .unlocked => busy
  | .passing => busy
  | .closing => busy
where
  busy : State × Answer := (s, .laneBusy (s.lane i).queue.length)

/-- What READ LANE reports (R99). -/
def LaneUnit.report (u : LaneUnit) : LaneReport :=
  { gate := u.gate, tracker := u.tracker, rotation := u.rotation, beam := u.beam, lastSample := u.lastSample,
    unlockOut := u.unlockOut, queue := u.queue, fault := u.fault, link := u.link, config := u.config,
    nextCredit := u.nextCredit }

/-- What LANE STATUS reports (R100). -/
def LaneUnit.status (u : LaneUnit) : Answer :=
  .laneStatus u.gate (u.queue.head?.map fun c => (c.number, c.state)) u.lastEnded

/-- LANE_STATUS (R100). -/
def execLaneStatus (l : LinkNo) (tag : Nat) (s : State) : Result :=
  takeFrame l 2 tag (onLinkLane l fun i => report fun s => (s.lane i).status) s

/-- HELLO (R178). -/
def execHello (l : LinkNo) (tag : Nat) (s : State) : Result :=
  takeFrame l 3 tag (report fun _ => .hello l (roleOf l)) s

/-- OPEN_LANE (R81). -/
def execOpenLane (l : LinkNo) (tag lane : Nat) (s : State) : Result := takeFrame l 52 tag (onLane lane openLane) s

/-- CLOSE_LANE (R83). -/
def execCloseLane (l : LinkNo) (tag lane : Nat) (s : State) : Result := takeFrame l 53 tag (onLane lane closeLane) s

/-- CLEAR_LANE (R96). -/
def execClearLane (l : LinkNo) (tag lane : Nat) (s : State) : Result := takeFrame l 54 tag (onLane lane clearLane) s

/-- CONFIGURE_LANE (R78). -/
def execConfigureLane (l : LinkNo) (tag lane : Nat) (config : LaneConfig) (s : State) : Result :=
  takeFrame l 55 tag (onLane lane (configureLane config)) s

/-- READ_LANE (R99). -/
def execReadLane (l : LinkNo) (tag lane : Nat) (s : State) : Result :=
  takeFrame l 56 tag (onLane lane fun i => report fun s => .lane (s.lane i).report) s

/-- UNKNOWN_REQUEST: a good frame whose code is not in R178 (R173). -/
def execUnknownRequest (l : LinkNo) (tag code : Nat) (s : State) : Result :=
  takeFrame l code tag (report fun _ => .unknownRequest) s

end Sys2Proof.Machine
end

