-- ==== Sys2Proof/Machine/Lift.lean ====
section
/-! DEFINITION. The Carrier Pacer: SET LIFT, SET SEATS, SET PACING, READ LIFT, the carrier edge and the lost watch (R123 to
R140). -/

namespace Sys2Proof.Machine

/-- The estimate: the mean of the history rounded down, or the nominal interval (R130). -/
def Pacer.estimate (p : Pacer) : Nat :=
  if p.history = [] then p.settings.nominal else p.history.sum / p.history.length

/-- The cutoff of a slot opened now (R134). -/
def Pacer.cutoff (p : Pacer) : Nat := p.estimate * p.settings.cutoffPercent / 100

/-! ## SET LIFT (R127, R128) -/

/-- A RELEASED credit returned to HOLDING by a lift stop (R128). -/
def Credit.toHolding (lifeEnd : Nat) (c : Credit) : Credit :=
  if c.state = .released then
    { c with state := .holding, releasedAt := none, slot := none, earliestUnlock := none, lifeEnd := some lifeEnd }
  else c

/-- A lane's RELEASED credits returned to HOLDING (R128). -/
def LaneUnit.liftStop (now : Nat) (u : LaneUnit) : LaneUnit :=
  { u with queue := u.queue.map (Credit.toHolding (now + u.config.creditLife * 1000)) }.follow

/-- SET LIFT with STOPPED while RUNNING (R128). -/
def State.stopLift (s : State) : State :=
  { s with
    pacer := { s.pacer with lift := .stopped, watchRunning := false }
    lanes := s.lanes.map (LaneUnit.liftStop s.clock) }

/-- The lost watch starts from now (R131). -/
def Pacer.startWatch (now : Nat) (p : Pacer) : Pacer := { p with watchRunning := true, watchFrom := now }

/-- SET LIFT with RUNNING while STOPPED (R127). -/
def State.startLift (s : State) : State :=
  match s.pacer.mode with
  | .paced =>
    let p : Pacer := { s.pacer with lift := .running }
    State.arbitrate { s with pacer := if p.tracking = .tracking then p.startWatch s.clock else p }
  | .free => State.freeReleaseAll { s with pacer := { s.pacer with lift := .running } }

/-- SET LIFT (R127, R128). -/
def setLift (state : Nat) (s : State) : State × Answer :=
  match liftStateOf state with
  | none => (s, .outOfRange)
  | some v =>
    if v = s.pacer.lift then (s, .lift v none)
    else
      match v with
      | .running =>
        let t := s.startLift
        (t, .lift .running (some (s.holdingCount - t.holdingCount)))
      | .stopped =>
        let t := s.stopLift
        (t, .lift .stopped (some (t.holdingCount - s.holdingCount)))

/-! ## SET SEATS and SET PACING (R126, R133) -/

/-- SET SEATS (R133). -/
def setSeats (seats : Nat) (s : State) : State × Answer :=
  let k := clamp 1 8 seats
  let p : Pacer := { s.pacer with pendingSeats := k, activeSeats := if s.pacer.mode = .free then k else s.pacer.activeSeats }
  ({ s with pacer := p }, .seats p.pendingSeats p.activeSeats)

/-- The change of mode of SET PACING on the pacer, the values stored and the history empty (R126). -/
def Pacer.setMode (now : Nat) (mode : PacingMode) (settings : PacingSettings) (p : Pacer) : Pacer :=
  let q : Pacer := { p with mode := mode, settings := settings, history := [] }
  match p.mode, mode with
  | .paced, .paced => q
  | .free, .paced =>
    let q : Pacer := { q with tracking := .tracking, lastEdge := none, slot := none }
    if q.lift = .running then q.startWatch now else q
  | .paced, .free => { q with slot := none, watchRunning := false, activeSeats := q.pendingSeats }
  | .free, .free => q

/-- SET PACING (R126). -/
def setPacing (mode : Nat) (settings : PacingSettings) (s : State) : State × Answer :=
  match modeOf mode with
  | none => (s, .outOfRange)
  | some m =>
    let stored := clampPacing settings
    let t := { s with pacer := s.pacer.setMode s.clock m stored }
    (if s.pacer.mode = .paced ∧ m = .free then t.freeReleaseAll else t, .pacing m stored)

/-! ## Carrier edges (R129 to R134) -/

/-- How an edge is classified (R129). -/
inductive EdgeClass where
  | bounce
  | inPace (g : Nat)
  | newCarrier
  deriving DecidableEq, Repr

/-- R129: g against the interval min and max; LOST tracking accepts any edge as a new carrier. -/
def Pacer.classifyEdge (now : Nat) (p : Pacer) : EdgeClass :=
  match p.tracking, p.lastEdge with
  | .lost, _ => .newCarrier
  | .tracking, none => .newCarrier
  | .tracking, some e =>
    if now - e < p.settings.intervalMin then .bounce
    else if now - e ≤ p.settings.intervalMax then .inPace (now - e)
    else .newCarrier

/-- An interval at the newest end; of a full history the oldest leaves (R130). -/
def historyPush (history : List Nat) (g : Nat) : List Nat :=
  (if history.length < Config.historySize then history else history.tail) ++ [g]

/-- Step 1 of R129: tracking regained, with the gap journaled and CARRIER REGAINED raised (R132). -/
def State.regain (s : State) : State :=
  if s.pacer.tracking = .lost then
    let gap := s.clock - s.pacer.lastEdge.getD s.pacer.watchFrom
    let s : State := { s with pacer := { s.pacer with tracking := .tracking } }
    (s.append (.carrierRegained gap)).raise (.lift .carrierRegained)
  else s

/-- Steps 2 to 4 of R129: history, last accepted edge, seats loaded (R133). -/
def Pacer.acceptEdge (now : Nat) (k : EdgeClass) (p : Pacer) : Pacer :=
  { p with
    history :=
      match k with
      | .inPace g => historyPush p.history g
      | .newCarrier => p.history
      | .bounce => p.history
    lastEdge := some now
    activeSeats := p.pendingSeats }

/-- Step 5 of R129: a slot opens (R134). -/
def Pacer.openSlotNow (now : Nat) (p : Pacer) : Pacer :=
  let n := (p.lastSlot + 1) % Config.seqTop
  { p with
    lastSlot := n
    slot := some
      { number := n, openedAt := now, capacity := p.activeSeats, released := 0, cutoffEnd := now + p.cutoff,
        earliestUnlock := now + p.settings.leadOffset }
    counts := { p.counts with
      slotsOpened := satAdd p.counts.slotsOpened 1, seatsOffered := satAdd p.counts.seatsOffered p.activeSeats } }

/-- Step 6 of R129: the lost watch restarted while RUNNING (R131). -/
def Pacer.edgeWatch (now : Nat) (p : Pacer) : Pacer := if p.lift = .running then p.startWatch now else p

/-- An accepted edge: the seven steps of R129. -/
def State.acceptEdge (s : State) (k : EdgeClass) : State :=
  let s := s.regain
  let p := (s.pacer.acceptEdge s.clock k).openSlotNow s.clock
  State.arbitrate { s with pacer := p.edgeWatch s.clock }

/-- CARRIER_EDGE (R129). -/
def execCarrierEdge (s : State) : Result :=
  whenRunning s fun s =>
    match s.pacer.mode with
    | .free => s
    | .paced =>
      match s.pacer.classifyEdge s.clock with
      | .bounce => s
      | .inPace g => s.acceptEdge (.inPace g)
      | .newCarrier => s.acceptEdge .newCarrier

/-- LOST_WATCH_EXPIRY: tracking is LOST (R131). -/
def execLostWatchExpiry (s : State) : Result :=
  whenRunning s fun s =>
    if s.pacer.watchRunning then
      let s := s.waitUntil (s.pacer.watchFrom + s.pacer.settings.intervalMax + 1)
      let s : State := { s with pacer := { s.pacer with
        tracking := .lost, watchRunning := false
        counts := { s.pacer.counts with carrierLosses := satAdd s.pacer.counts.carrierLosses 1 } } }
      (s.append .carrierLost).raise (.lift .carrierLost)
    else s

/-- SET_LIFT (R127). -/
def execSetLift (l : LinkNo) (tag state : Nat) (s : State) : Result := takeFrame l 48 tag (setLift state) s

/-- SET_SEATS (R133). -/
def execSetSeats (l : LinkNo) (tag seats : Nat) (s : State) : Result := takeFrame l 49 tag (setSeats seats) s

/-- SET_PACING (R126). -/
def execSetPacing (l : LinkNo) (tag mode : Nat) (settings : PacingSettings) (s : State) : Result :=
  takeFrame l 50 tag (setPacing mode settings) s

/-- READ_LIFT (R140). -/
def execReadLift (l : LinkNo) (tag : Nat) (s : State) : Result :=
  takeFrame l 51 tag (report fun s => .pacer s.pacer s.pacer.estimate) s

end Sys2Proof.Machine
end

