-- ==== Sys2Proof/Machine/PassRequests.lean ====
section
/-! DEFINITION. The office's requests on the Pass Table and the Day-Use Pool (R10 to R18, R30 to R35). -/

namespace Sys2Proof.Machine

/-! ## LOAD PASS (R11) -/

/-- The values of LOAD PASS are in range (R3). -/
def loadInRange (number cls days paid firstDay lastDay : Nat) : Bool :=
  passNumberOk number && classOk cls && daysOk days && paidOk paid && dayOk firstDay && dayOk lastDay &&
    windowOk firstDay lastDay

/-- The record LOAD PASS creates (R2). -/
def newPass (number check cls days paid firstDay lastDay : Nat) : Pass :=
  { number, check, cls, days, paid, firstDay, lastDay, state := .active, overUse := false, generation := 0,
    lastPassage := none, holdEnd := none, uses := [], settlement := none }

/-- LOAD PASS (R11). -/
def loadPass (number check cls days paid firstDay lastDay : Nat) (s : State) : State × Answer :=
  if ¬ loadInRange number cls days paid firstDay lastDay then (s, .outOfRange)
  else if (s.findPass number).isSome then (s, .duplicate)
  else if Config.tableSize ≤ s.passes.length then (s, .tableFull)
  else if s.free < days then (s, .poolFull s.free)
  else
    ({ s with
        passes := insertPass (newPass number check cls days paid firstDay lastDay) s.passes
        free := s.free - days },
      .loaded number 0 (s.free - days))

/-! ## AMEND PASS (R12, R13) -/

/-- The new values an AMEND PASS carries (R12). -/
structure Amendment where
  lastDay : Option Nat
  days : Option Nat
  paid : Option Nat
  cls : Option Nat
  check : Option Nat
  deriving DecidableEq, Repr

/-- The values whose bit of the presence byte is set (R178). -/
def amendment (presence lastDay days paid cls check : Nat) : Amendment :=
  { lastDay := carried presence 0 lastDay, days := carried presence 1 days, paid := carried presence 2 paid,
    cls := carried presence 3 cls, check := carried presence 4 check }

/-- Check 1 of R12: the pass number, the presence byte (R178) and each carried value on its own. -/
def amendInRange (number presence : Nat) (a : Amendment) : Bool :=
  passNumberOk number && decide (presence < 32) && a.lastDay.all dayOk && a.days.all daysOk && a.paid.all paidOk &&
    a.cls.all classOk

/-- The record with the carried values in place and the generation raised (R13). -/
def Pass.amend (a : Amendment) (p : Pass) : Pass :=
  { p with
    lastDay := a.lastDay.getD p.lastDay
    days := a.days.getD p.days
    paid := a.paid.getD p.paid
    cls := a.cls.getD p.cls
    check := a.check.getD p.check
    generation := bump p.generation }

/-- AMEND PASS with its values read (R12, R13). -/
def amendPass (number presence : Nat) (a : Amendment) (s : State) : State × Answer :=
  if ¬ amendInRange number presence a then (s, .outOfRange)
  else
    match s.findPass number with
    | none => (s, .unknownPass)
    | some p =>
      if p.state = .surrendered then (s, .settled)
      else if a.lastDay.any fun d => !windowOk p.firstDay d then (s, .outOfRange)
      else if a.days.any (· < p.uses.length) then (s, .belowUse p.uses.length)
      else if a.days.any fun d => s.free < d - p.days then (s, .poolFull s.free)
      else
        let free := s.free + p.days - a.days.getD p.days
        ({ s with free := free }.modPass number (Pass.amend a), .amended (bump p.generation) free)

/-! ## BLOCK, UNBLOCK, PURGE and READ PASS (R14 to R18) -/

/-- A request that names a pass: its number in range and its record found (R3, R10). -/
def onPass (number : Nat) (act : Pass → State → State × Answer) (s : State) : State × Answer :=
  if ¬ passNumberOk number then (s, .outOfRange)
  else
    match s.findPass number with
    | none => (s, .unknownPass)
    | some p => act p s

/-- BLOCK PASS on a record (R14, R15). A withdrawn head offers the second credit (R69). -/
def blockPass (p : Pass) (s : State) : State × Answer :=
  if p.state = .surrendered then (s, .settled)
  else
    let t := s.modPass p.number fun p => { p with state := .blocked }
    match s.creditOf p.number with
    | none => (t, .blocked .none)
    | some (i, place, c) =>
      if c.notUnlocked then
        (if place = 0 then t.endHead i (.withdrawn .passBlocked) else t.endCredit i place (.withdrawn .passBlocked),
          .blocked (.withdrawn i c.number))
      else (t, .blocked (.running i c.number c.state))

/-- UNBLOCK PASS on a record (R16). -/
def unblockPass (p : Pass) (s : State) : State × Answer :=
  if p.state = .surrendered then (s, .settled)
  else (s.modPass p.number fun p => { p with state := .active }, .unblocked .active)

/-- PURGE PASS on a record (R17). -/
def purgePass (p : Pass) (s : State) : State × Answer :=
  match s.creditOf p.number with
  | some (i, _, c) => (s, .creditPending i c.number)
  | none =>
    ({ s with passes := removePass p.number s.passes, free := s.free + p.days }, .purged (s.free + p.days))

/-- What READ PASS reports of a record (R18). -/
def passReport (s : State) (p : Pass) : PassReport :=
  { pass := p, remaining := p.remaining, holdLeft := p.holdEnd.map (· - s.clock)
    credit := (s.creditOf p.number).map fun (i, _, c) => (i, c.number, c.state) }

/-! ## MERGE USE (R30 to R35) -/

/-- The over-use flag set, with the generation raised if it was clear (R35). -/
def Pass.setOverUse (p : Pass) : Pass :=
  if p.overUse then p else { p with overUse := true, generation := bump p.generation }

/-- The flag and the OVERUSE record (R35). -/
def State.markOverUse (s : State) (p : Pass) (day : Nat) : State :=
  (s.modPass p.number Pass.setOverUse).append (.overuse p.number day)

/-- FULL if either kind is FULL (R33). -/
def mergeKind : DayKind → DayKind → DayKind
  | .half, .half => .half
  | _, _ => .full

/-- The first-use link of a pass's credit is cut (R33). -/
def State.cutLink (s : State) (n : Nat) : State :=
  { s with lanes := s.lanes.map fun u =>
      { u with queue := u.queue.map fun c => if c.pass = n then { c with firstUse := none } else c } }

/-- The record changed by a merge, its generation raised, and the answer MERGED (R30). -/
def State.merged (s : State) (p : Pass) (uses : List DayUse) (r : MergeResult) : State × Answer :=
  let q : Pass := { p with uses := uses, generation := bump p.generation }
  (s.modPass p.number fun _ => q, .merged r q.uses.length q.remaining q.generation)

/-- MERGE USE that has passed the window check (R31 to R34). -/
def mergeInWindow (day : Nat) (kind : DayKind) (p : Pass) (s : State) : State × Answer :=
  if p.state = .surrendered then
    (s.markOverUse p day, .settledMerge (p.settlement.elim 0 Settlement.refund))
  else
    match findUse day p.uses with
    | some e =>
      if e.status = .final then
        if e.kind = .half ∧ kind = .full then
          s.merged p (modUse day (fun e => { e with kind := .full }) p.uses) .upgraded
        else (s, .merged .noChange p.uses.length p.remaining p.generation)
      else
        (s.cutLink p.number).merged p
          (modUse day (fun e => { e with kind := mergeKind e.kind kind, origin := .merged, status := .final }) p.uses)
          .finalised
    | none =>
      if p.uses.length < p.days then
        s.merged p (insertUse { day := day, kind := kind, origin := .merged, status := .final } p.uses) .inserted
      else (s.markOverUse p day, .overUse p.days p.uses.length)

/-- The window of R30 step 3. -/
def mergeDayOk (s : State) (p : Pass) (day : Nat) : Bool :=
  day ≠ 0 && day ≤ s.lastOpened && p.firstDay ≤ day && day ≤ p.lastDay

/-- MERGE USE (R30). -/
def mergeUse (number day kind : Nat) (s : State) : State × Answer :=
  match kindOf kind with
  | none => (s, .outOfRange)
  | some k =>
    onPass number (fun p s =>
      if mergeDayOk s p day then mergeInWindow day k p s
      else (s, .outOfWindow p.firstDay p.lastDay s.lastOpened)) s

/-! ## The commands -/

/-- LOAD_PASS (R11). -/
def execLoadPass (l : LinkNo) (tag number check cls days paid firstDay lastDay : Nat) (s : State) : Result :=
  takeFrame l 16 tag (loadPass number check cls days paid firstDay lastDay) s

/-- AMEND_PASS (R12, R13). -/
def execAmendPass (l : LinkNo) (tag number presence lastDay days paid cls check : Nat) (s : State) : Result :=
  takeFrame l 17 tag (amendPass number presence (amendment presence lastDay days paid cls check)) s

/-- BLOCK_PASS (R14). -/
def execBlockPass (l : LinkNo) (tag number : Nat) (s : State) : Result := takeFrame l 18 tag (onPass number blockPass) s

/-- UNBLOCK_PASS (R16). -/
def execUnblockPass (l : LinkNo) (tag number : Nat) (s : State) : Result :=
  takeFrame l 19 tag (onPass number unblockPass) s

/-- PURGE_PASS (R17). -/
def execPurgePass (l : LinkNo) (tag number : Nat) (s : State) : Result := takeFrame l 20 tag (onPass number purgePass) s

/-- READ_PASS (R18). -/
def execReadPass (l : LinkNo) (tag number : Nat) (s : State) : Result :=
  takeFrame l 21 tag (onPass number fun p => report fun s => .pass (passReport s p)) s

/-- MERGE_USE (R30). -/
def execMergeUse (l : LinkNo) (tag number day kind : Nat) (s : State) : Result :=
  takeFrame l 22 tag (mergeUse number day kind) s

end Sys2Proof.Machine
end

