-- ==== Sys2Proof/Machine/Reporting.lean ====
section
/-! DEFINITION. The reporting requests: READ EVENTS, SET MASK, SET LEVELS, READ COUNTS and READ JOURNAL (R122, R161, R163,
R165, R167). -/

namespace Sys2Proof.Machine

/-- READ EVENTS on a link: the whole pending set, which is then empty (R167). -/
def readEvents (l : LinkNo) (s : State) : State × Answer :=
  let e := s.link l
  (s.modLink l fun e => { e with pairs := [] }.decide s.levels,
    .events e.mask (e.pairs.map fun p => (p, levelOf s.levels p)))

/-- SET MASK on a link (R165). -/
def setMask (l : LinkNo) (mask : Nat) (s : State) : State × Answer :=
  if 7 < mask then (s, .outOfRange)
  else
    let t := s.modLink l fun e => { e with mask := mask }.decide s.levels
    (t, .mask mask (t.link l).attention)

/-- SET LEVELS: the table replaced, every attention line decided afresh (R163). -/
def setLevels (v : Levels) (s : State) : State × Answer :=
  match levelBad v with
  | some k => (s, .levelOutOfRange k)
  | none => ({ s with levels := v, links := s.links.map (Endpoint.decide v) }, .levels v)

/-- What READ COUNTS reports of a lane (R122). -/
def LaneUnit.countsReport (u : LaneUnit) : CountsReport := { counts := u.counts, queued := u.queue.length }

/-- The lanes a selector of READ COUNTS selects: one lane, or 255 for ALL (R122, R178). -/
def selected (selector : Nat) : Option (List LaneNo) :=
  if selector = 255 then some allLanes else (laneOf selector).map fun i => [i]

/-- READ COUNTS on a link (R122). -/
def readCounts (l : LinkNo) (selector : Nat) (s : State) : State × Answer :=
  match selected selector with
  | none => (s, .outOfRange)
  | some lanes =>
    (s, .counts s.day s.lastOpened (lanes.map fun i => (s.lane i).countsReport) s.pacer.counts
      (if roleOf l = .office then some (s.passes.length, s.free) else none))

/-- The oldest held sequence (R157). -/
def State.oldestSeq (s : State) : Nat := s.journal.head?.elim s.nextSeq JournalRecord.seq

/-- READ JOURNAL (R161). DESIGN CHOICE, log 32: a start equal to the next sequence number has no gap mark after a cold start
either, by R161's table and against the last sentence of R185. -/
def readJournal (start count : Nat) (s : State) : State × Answer :=
  if 16 < count then (s, .outOfRange)
  else
    let d := (start + Config.seqTop - s.oldestSeq) % Config.seqTop
    let held := s.journal.length
    if d < held then (s, .journal s.oldestSeq s.nextSeq false ((s.journal.drop d).take count))
    else if d = held then (s, .journal s.oldestSeq s.nextSeq false [])
    else (s, .journal s.oldestSeq s.nextSeq true (s.journal.take count))

/-- READ_EVENTS (R167). -/
def execReadEvents (l : LinkNo) (tag : Nat) (s : State) : Result := takeFrame l 4 tag (readEvents l) s

/-- SET_MASK (R165). -/
def execSetMask (l : LinkNo) (tag mask : Nat) (s : State) : Result := takeFrame l 5 tag (setMask l mask) s

/-- SET_LEVELS (R163). -/
def execSetLevels (l : LinkNo) (tag : Nat) (levels : Levels) (s : State) : Result :=
  takeFrame l 6 tag (setLevels levels) s

/-- READ_COUNTS (R122). -/
def execReadCounts (l : LinkNo) (tag selector : Nat) (s : State) : Result := takeFrame l 7 tag (readCounts l selector) s

/-- READ_JOURNAL (R161). -/
def execReadJournal (l : LinkNo) (tag start count : Nat) (s : State) : Result :=
  takeFrame l 8 tag (readJournal start count) s

end Sys2Proof.Machine
end

