-- ==== Sys2Proof/Machine/Settlement.lean ====
section
/-! DEFINITION. Quoting and settling refunds (R141 to R152). -/

namespace Sys2Proof.Machine

/-- T, the half-day charge: stage 1 of R144. -/
def halfCharge (r : Nat) : Nat := (r + 1) / 2

/-- C, the charge: stage 2 of R144. -/
def charge (full half r : Nat) : Nat := full * r + half * halfCharge r

/-- A, the usage residue: stage 3 of R144. -/
def residue (paid c : Nat) : Nat := if c < paid then paid - c else 0

/-- S, the pro-rata value: stage 4 of R145. -/
def proRata (paid days full half : Nat) : Nat := paid * (2 * days - 2 * full - half) / (2 * days)

/-- N: stages 5 and 6 (R145, R146). -/
def afterFraction (a p fraction : Nat) : Nat := min a p * fraction / 10000

/-- G: stage 7 of R146. -/
def afterFee (n fee : Nat) : Nat := if fee < n then n - fee else 0

/-- The rounded refund: stage 8 of R146. -/
def rounded (g quantum : Nat) : Nat := g - g % quantum

/-- A quote by the stages of R144 to R146, from a record and a class record (R142, R143). -/
def quoteOf (p : Pass) (t : Tariff) : Quote :=
  let full := finals .full p.uses
  let half := finals .half p.uses
  let c := charge full half t.rate
  let a := residue p.paid c
  let v := proRata p.paid p.days full half
  let n := afterFraction a v t.fraction
  let g := afterFee n t.fee
  { cls := p.cls, full, half, charge := c, residue := a, proRata := v, afterFraction := n, afterFee := g
    refund := if p.overUse then 0 else rounded g t.quantum
    overUse := p.overUse, generation := p.generation }

/-- Checks 3 and 4 of R141 and R148. -/
def settleRefused (s : State) (p : Pass) : Option Answer :=
  if p.state = .surrendered then
    some (.settledDetail (p.settlement.elim 0 Settlement.refund) (p.settlement.elim 0 Settlement.settleDay))
  else (s.creditOf p.number).map fun (i, _, c) => .creditPending i c.number

/-- QUOTE REFUND on a record (R141). -/
def quoteRefund (p : Pass) (s : State) : State × Answer :=
  match settleRefused s p with
  | some a => (s, a)
  | none => (s, .quote (quoteOf p (s.tariffOf p.cls)))

/-- The settle day: the current day while OPEN or CLOSING, the last-opened day while CLOSED (R150). -/
def settleDay (s : State) : Nat := if s.day = .closed then s.lastOpened else s.currentDay

/-- The record settled: SURRENDERED, the settlement part present, the generation raised (R150). -/
def Pass.settle (q : Quote) (day generation : Nat) (p : Pass) : Pass :=
  { p with
    state := .surrendered
    settlement := some { refund := q.refund, settleDay := day, full := q.full, half := q.half, generation := generation }
    generation := bump p.generation }

/-- SETTLE REFUND on a record (R148, R150, R152). -/
def settleRefund (generation : Nat) (p : Pass) (s : State) : State × Answer :=
  match settleRefused s p with
  | some a => (s, a)
  | none =>
    if generation ≠ p.generation then (s, .stale p.generation)
    else if s.lastOpened = 0 then (s, .noDay)
    else
      let q := quoteOf p (s.tariffOf p.cls)
      ((s.modPass p.number (Pass.settle q (settleDay s) generation)).append
          (.settlement p.number q.refund q.full q.half generation),
        .settledNow q (settleDay s) generation (bump p.generation))

/-- QUOTE_REFUND (R141). -/
def execQuoteRefund (l : LinkNo) (tag number : Nat) (s : State) : Result :=
  takeFrame l 23 tag (onPass number quoteRefund) s

/-- SETTLE_REFUND (R148, R150). -/
def execSettleRefund (l : LinkNo) (tag number generation : Nat) (s : State) : Result :=
  takeFrame l 24 tag (onPass number (settleRefund generation)) s

end Sys2Proof.Machine
end

