-- ==== Sys2Proof/Machine/Starts.lean ====
section
/-! DEFINITION. Starts, RESET and power (R20, R52, R102, R181 to R185). -/

namespace Sys2Proof.Machine

/-! ## A start (R183) -/

/-- TENTATIVE entries in the Pass Table (R183 step 1). -/
def State.tentativeCount (s : State) : Nat := (s.passes.map fun p => tentatives p.uses).sum

/-- Every retained item at its cold value (R181, R183 step 2). The waiting commands and the counter of free values are the
model's own and stay. -/
def State.emptied (s : State) : State := { State.reset with pending := s.pending, freeCount := s.freeCount, journal := [], nextSeq := 1 }

/-- Steps 4 and 5 of R183 on a record: a TENTATIVE entry removed with the generation raised, no passback hold. -/
def Pass.restart (p : Pass) : Pass :=
  { p with
    uses := removeTentative p.uses
    generation := if tentatives p.uses = 0 then p.generation else bump p.generation
    holdEnd := none }

/-- Steps 3 and 6 of R183 on a lane: its credits counted as withdrawn, all else as a start leaves it (R102). -/
def LaneUnit.restart (u : LaneUnit) : LaneUnit :=
  LaneUnit.atStart u.config u.nextCredit { u.counts with withdrawn := satAdd u.counts.withdrawn u.queue.length }

/-- Step 9 of R183, with the items of R124 a warm start keeps. The watch reference is the model's (log 23). -/
def Pacer.restart (p : Pacer) : Pacer :=
  { Pacer.cold with
    mode := p.mode, settings := p.settings, activeSeats := p.activeSeats, pendingSeats := p.pendingSeats
    lastSlot := p.lastSlot, counts := p.counts }

/-- What a start accounts for of the old run: day state, queued credits, TENTATIVE entries; nothing on a COLD start caused
by POWER-UP (R183 step 1). -/
def State.accounted (s : State) (kind : StartKind) (cause : StartCause) : Option DayState × Nat × Nat :=
  if kind = .cold ∧ cause = .powerUp then (none, 0, 0) else (some s.day, s.queued, s.tentativeCount)

/-- Steps 3 to 12 of R183 on the memory that step 2 leaves. -/
def State.restart (s : State) (kind : StartKind) (cause : StartCause) (old : Option DayState × Nat × Nat) : State :=
  { s with
    run := .running, passes := s.passes.map Pass.restart, clock := 0, offset := 0, clockSet := false, day := .closed
    lanes := s.lanes.map LaneUnit.restart, pacer := s.pacer.restart, links := Eight.all Endpoint.atStart
    office := OfficePort.atStart
    startRecord :=
      { kind := kind, cause := cause, dayBefore := old.1, lastOpened := s.lastOpened, withdrawn := old.2.1
        removed := old.2.2, seq := s.nextSeq } }

/-- A start: the thirteen steps of R183 in one event. -/
def State.start (s : State) (kind : StartKind) (cause : StartCause) : State :=
  let old := s.accounted kind cause
  let memory := if kind = .cold then s.emptied else s
  (memory.restart kind cause old).append (.start kind cause old.2.1 old.2.2)

/-! ## RESET and power (R182) -/

/-- Every unlock, sensor-power and attention output inactive and every driver disabled (R182). -/
def State.outputsOff (s : State) : State :=
  { s with
    lanes := s.lanes.map fun u => { u with unlockOut := false, sensorPower := false }
    links := s.links.map fun e => { e with attention := false, driver := false } }

/-- The kind of a power-up start (R182). -/
def powerUpKind (retainOk : Bool) : StartKind := if retainOk then .warm else .cold

/-- POWER_UP (R182): with RESET asserted the part holds; else it starts. With power already there, nothing happens
(log 6). -/
def execPowerUp (retainOk : Bool) (s : State) : Result :=
  .next <|
    match s.run with
    | .off true => { s with run := .heldPowerUp retainOk }
    | .off false => s.start (powerUpKind retainOk) .powerUp
    | .running => s
    | .heldReset => s
    | .heldPowerUp _ => s

/-- RESET_ASSERTED (R182). -/
def execResetAsserted (s : State) : Result :=
  .next <|
    match s.run with
    | .running => { s.outputsOff with run := .heldReset }
    | .off _ => { s with run := .off true }
    | .heldReset => s
    | .heldPowerUp _ => s

/-- RESET_RELEASED (R182). -/
def execResetReleased (s : State) : Result :=
  .next <|
    match s.run with
    | .heldReset => s.start .warm .reset
    | .heldPowerUp retainOk => s.start (powerUpKind retainOk) .powerUp
    | .off _ => { s with run := .off false }
    | .running => s

/-- POWER_LOSS (R181, R182): retained memory stays as the last event left it (log 26). -/
def execPowerLoss (s : State) : Result :=
  .next <|
    match s.run with
    | .running => { s.outputsOff with run := .off false }
    | .heldReset => { s with run := .off true }
    | .heldPowerUp _ => { s with run := .off true }
    | .off _ => s

/-! ## CLEAR ALL (R178, R182) -/

/-- The last byte of CLEAR ALL's answer leaves the office link, where it is the byte last sent (R177), and the cold start is
taken in the same event (log 20). -/
def State.clearAllSent (s : State) (a : OutAnswer) : State :=
  { s.start .cold .clearAll with office := { OfficePort.atStart with dataOut := a.bytes.getLastD 0#8 } }

/-- CLEAR ALL's answer, while it is queued on the office link (R178, R182). -/
def State.clearAllQueued (s : State) : Option OutAnswer := (s.link officeLink).output.find? fun a => a.answer = .cleared

/-- CLEAR_ALL_START (R178, R183). -/
def execClearAllStart (s : State) : Result :=
  whenRunning s fun s =>
    match s.clearAllQueued with
    | some a => s.clearAllSent a
    | none => s

end Sys2Proof.Machine
end

