-- ==== Sys2Proof/Machine/LinkEvents.lean ====
section
/-! DEFINITION. The movement of bytes on the links: receiving, discarding, and the leaving of answers (R172 to R177). -/

namespace Sys2Proof.Machine

/-! ## Answers leave (R174, R176, R177) -/

/-- A UART link: its wire has a frame gap, stop bits and its own speed (R169). -/
def isUart (l : LinkNo) : Bool := l ≠ officeLink

/-- A lane link: its wire has a driver (R176). -/
def isLaneLink (l : LinkNo) : Bool := (laneOfLink l).isSome

/-- The first answer of a queue has begun to leave. -/
def beginHead : List OutAnswer → List OutAnswer
  | [] => []
  | a :: as => { a with begun := true } :: as

/-- The first queued answer begins to leave; on a lane link the driver is enabled (R176). -/
def Endpoint.beginSend (lane : Bool) (e : Endpoint) : Endpoint :=
  if e.output = [] then e else { e with output := beginHead e.output, driver := lane }

/-- The slot after an answer has left: a BUSY answer holds none (R174). -/
def slotAfter (a : OutAnswer) (slot : Option (Nat × Nat)) : Option (Nat × Nat) := if a.isBusy then slot else none

/-- The first queued answer has left a UART link: the next one begins at once (log 18), and with none left a lane link's
driver is disabled (R176). -/
def Endpoint.uartSent (lane : Bool) (e : Endpoint) : Endpoint :=
  match e.output with
  | [] => e
  | a :: as => { e with output := as, slot := slotAfter a e.slot, driver := false }.beginSend lane

/-- The first queued answer has left the office link. -/
def Endpoint.officeSent (e : Endpoint) : Endpoint :=
  match e.output with
  | [] => e
  | a :: as => { e with output := as, slot := slotAfter a e.slot }

/-- The last byte of the office link's first answer is clocked out; if that answer is CLEAR ALL's, its cold start is taken
(R177, R178; log 20). -/
def State.officeSent (s : State) (a : OutAnswer) : State :=
  if a.answer = .cleared then s.clearAllSent a
  else
    { s.modLink officeLink Endpoint.officeSent with
      office := { readPos := 0, fillerOpen := false, dataOut := a.bytes.getLastD 0#8 } }

/-- ANSWER_SEND_BEGIN (R176, R177). -/
def execAnswerSendBegin (l : LinkNo) (s : State) : Result :=
  whenRunning s fun s =>
    match (s.link l).output with
    | [] => s
    | a :: _ =>
      if a.begun then s
      else
        let t := s.modLink l (Endpoint.beginSend (isLaneLink l))
        if isUart l then t else { t with office := { readPos := 1, fillerOpen := false, dataOut := answerMarker } }

/-- ANSWER_SENT (R174, R176, R177; log 19). -/
def execAnswerSent (l : LinkNo) (s : State) : Result :=
  whenRunning s fun s =>
    match (s.link l).output with
    | [] => s
    | a :: _ => if isUart l then s.modLink l (Endpoint.uartSent (isLaneLink l)) else s.officeSent a

/-! ## Partial frames end (R172, R177) -/

/-- FRAME_DISCARDED (R172). -/
def execFrameDiscarded (l : LinkNo) (s : State) : Result :=
  whenRunning s fun s => if s.deaf l then s else s.idleReceiver l

/-- FRAME_GAP_EXPIRY (R172). -/
def execFrameGapExpiry (l : LinkNo) (s : State) : Result :=
  whenRunning s fun s =>
    match (s.link l).receiver with
    | .idle => s
    | .receiving _ since => if isUart l then (s.waitUntil (since + Config.frameGap)).idleReceiver l else s

/-- BYTE_ERROR (R172). -/
def execByteError (l : LinkNo) (s : State) : Result :=
  whenRunning s fun s => if isUart l ∧ ¬ s.deaf l then s.idleReceiver l else s

/-- CHIP_SELECT_RELEASE (R177). -/
def execChipSelectRelease (s : State) : Result := whenRunning s fun s => s.idleReceiver officeLink

/-! ## Bytes arrive (R172, R177) -/

/-- The request a completed frame carries is taken in the event of its last byte (R172, R173; log 5). -/
def runRequest (i : Instr) (s : State) : Result :=
  match i with
  | .present l tag pass check => execPresent l tag pass check s
  | .laneStatus l tag => execLaneStatus l tag s
  | .hello l tag => execHello l tag s
  | .readEvents l tag => execReadEvents l tag s
  | .setMask l tag mask => execSetMask l tag mask s
  | .setLevels l tag levels => execSetLevels l tag levels s
  | .readCounts l tag selector => execReadCounts l tag selector s
  | .readJournal l tag start count => execReadJournal l tag start count s
  | .loadPass l tag number check cls days paid firstDay lastDay =>
    execLoadPass l tag number check cls days paid firstDay lastDay s
  | .amendPass l tag number presence lastDay days paid cls check =>
    execAmendPass l tag number presence lastDay days paid cls check s
  | .blockPass l tag number => execBlockPass l tag number s
  | .unblockPass l tag number => execUnblockPass l tag number s
  | .purgePass l tag number => execPurgePass l tag number s
  | .readPass l tag number => execReadPass l tag number s
  | .mergeUse l tag number day kind => execMergeUse l tag number day kind s
  | .quoteRefund l tag number => execQuoteRefund l tag number s
  | .settleRefund l tag number generation => execSettleRefund l tag number generation s
  | .setTariff l tag cls record => execSetTariff l tag cls record s
  | .readTariff l tag cls => execReadTariff l tag cls s
  | .setClock l tag time => execSetClock l tag time s
  | .openDay l tag day => execOpenDay l tag day s
  | .closeDay l tag => execCloseDay l tag s
  | .readDay l tag => execReadDay l tag s
  | .readStart l tag => execReadStart l tag s
  | .clearAll l tag => execClearAll l tag s
  | .setLift l tag state => execSetLift l tag state s
  | .setSeats l tag seats => execSetSeats l tag seats s
  | .setPacing l tag mode settings => execSetPacing l tag mode settings s
  | .readLift l tag => execReadLift l tag s
  | .openLane l tag lane => execOpenLane l tag lane s
  | .closeLane l tag lane => execCloseLane l tag lane s
  | .clearLane l tag lane => execClearLane l tag lane s
  | .configureLane l tag lane config => execConfigureLane l tag lane config s
  | .readLane l tag lane => execReadLane l tag lane s
  | .unknownRequest l tag code => execUnknownRequest l tag code s
  | .frameDiscarded _ => .next s
  | .frameGapExpiry _ => .next s
  | .byteError _ => .next s
  | .chipSelectRelease => .next s
  | .answerSendBegin _ => .next s
  | .answerSent _ => .next s
  | .rotorLeave _ => .next s
  | .mid _ => .next s
  | .returnToHome _ => .next s
  | .beamSample _ _ => .next s
  | .carrierEdge => .next s
  | .settleExpiry _ _ => .next s
  | .creditLifeExpiry _ _ => .next s
  | .unlockStart _ => .next s
  | .unlockEnd _ => .next s
  | .passageLimitExpiry _ => .next s
  | .silenceExpiry _ => .next s
  | .beamBlockedExpiry _ => .next s
  | .lostWatchExpiry => .next s
  | .powerUp _ => .next s
  | .resetAsserted => .next s
  | .resetReleased => .next s
  | .powerLoss => .next s
  | .clearAllStart => .next s
  | .byteReceived _ _ => .next s

/-- A completed frame: taken, or discarded with the receiver at IDLE (R172). -/
def completeFrame (l : LinkNo) (bytes : List Byte) (s : State) : Result :=
  match frameRequest l bytes with
  | some i => runRequest i s
  | none => .next (s.idleReceiver l)

/-- The receiver holds these bytes of a partial frame, the gap timer restarted (R172). -/
def State.hold (s : State) (l : LinkNo) (bytes : List Byte) : State :=
  s.modLink l fun e => { e with receiver := .receiving bytes s.clock }

/-- The length byte has arrived and is above the longest body (R172). -/
def tooLong (bytes : List Byte) : Bool := 4 ≤ bytes.length && Config.bodyTop < bodyNum bytes 3 1

/-- The length byte and the CRC mark the end (R172). -/
def frameComplete (bytes : List Byte) : Bool := 4 ≤ bytes.length && bytes.length = 6 + bodyNum bytes 3 1

/-- One byte taken by a link's receiver (R172). -/
def receiveByte (l : LinkNo) (b : Byte) (s : State) : Result :=
  match (s.link l).receiver with
  | .idle => .next (if b = requestMarker then s.hold l [b] else s)
  | .receiving before _ =>
    let bytes := before ++ [b]
    if tooLong bytes then .next (s.idleReceiver l)
    else if frameComplete bytes then completeFrame l bytes s
    else .next (s.hold l bytes)

/-- Whether the byte clocked now is the filler R177 allows before an answer (log 22). -/
def State.fillerNow (s : State) : Bool := s.office.fillerOpen && Config.fillerFirst s.freeCount

/-- The free value is used up once it has been read (log 22). -/
def State.useFiller (s : State) : State :=
  if s.office.fillerOpen then
    { s with office := { s.office with fillerOpen := false }, freeCount := s.freeCount + 1 }
  else s

/-- The next unsent byte of the office link's first answer (R177). -/
def State.clockByte (s : State) (a : OutAnswer) : State :=
  if s.office.readPos + 1 < a.bytes.length then
    { s.modLink officeLink (Endpoint.beginSend false) with
      office := { s.office with readPos := s.office.readPos + 1, dataOut := a.bytes.getD s.office.readPos 0#8 } }
  else s.officeSent a

/-- The office link sends 0x00 (R177). -/
def State.clockIdle (s : State) : State := { s with office := { s.office with dataOut := 0#8 } }

/-- One byte is clocked out of the office link (R177). -/
def State.clockOut (s : State) : State :=
  match (s.link officeLink).output with
  | [] => s.clockIdle
  | a :: _ => if s.fillerNow then s.useFiller.clockIdle else s.useFiller.clockByte a

/-- The byte clocked now is the last one of CLEAR ALL's answer. -/
def State.clearsNow (s : State) : Bool :=
  match (s.link officeLink).output with
  | [] => false
  | a :: _ => !s.fillerNow && a.answer = .cleared && a.bytes.length ≤ s.office.readPos + 1

/-- BYTE_RECEIVED (R172, R177): on the office link a byte goes out before the byte taken in (log 21); the byte taken in
with CLEAR ALL's last answer byte is lost with its start (log 20). -/
def execByteReceived (l : LinkNo) (b : Byte) (s : State) : Result :=
  if s.run = .running then
    if isUart l then (if s.deaf l then .next s else receiveByte l b s)
    else if s.clearsNow then .next s.clockOut
    else receiveByte l b s.clockOut
  else .next s

end Sys2Proof.Machine
end

