-- ==== Sys2Proof/Machine/Dispatch.lean ====
section
/-! DEFINITION. One arm per command of the table, each a call of its meaning. -/

namespace Sys2Proof.Machine

def exec (i : Instr) (s : State) : Host.Outcome State Fault Refusal :=
  match i with
  | .present link tag pass check => Sys2Proof.Machine.execPresent link tag pass check s
  | .laneStatus link tag => Sys2Proof.Machine.execLaneStatus link tag s
  | .hello link tag => Sys2Proof.Machine.execHello link tag s
  | .readEvents link tag => Sys2Proof.Machine.execReadEvents link tag s
  | .setMask link tag mask => Sys2Proof.Machine.execSetMask link tag mask s
  | .setLevels link tag levels => Sys2Proof.Machine.execSetLevels link tag levels s
  | .readCounts link tag selector => Sys2Proof.Machine.execReadCounts link tag selector s
  | .readJournal link tag start count => Sys2Proof.Machine.execReadJournal link tag start count s
  | .loadPass link tag number check cls days paid firstDay lastDay => Sys2Proof.Machine.execLoadPass link tag number check cls days paid firstDay lastDay s
  | .amendPass link tag number presence lastDay days paid cls check => Sys2Proof.Machine.execAmendPass link tag number presence lastDay days paid cls check s
  | .blockPass link tag number => Sys2Proof.Machine.execBlockPass link tag number s
  | .unblockPass link tag number => Sys2Proof.Machine.execUnblockPass link tag number s
  | .purgePass link tag number => Sys2Proof.Machine.execPurgePass link tag number s
  | .readPass link tag number => Sys2Proof.Machine.execReadPass link tag number s
  | .mergeUse link tag number day kind => Sys2Proof.Machine.execMergeUse link tag number day kind s
  | .quoteRefund link tag number => Sys2Proof.Machine.execQuoteRefund link tag number s
  | .settleRefund link tag number generation => Sys2Proof.Machine.execSettleRefund link tag number generation s
  | .setTariff link tag cls record => Sys2Proof.Machine.execSetTariff link tag cls record s
  | .readTariff link tag cls => Sys2Proof.Machine.execReadTariff link tag cls s
  | .setClock link tag time => Sys2Proof.Machine.execSetClock link tag time s
  | .openDay link tag day => Sys2Proof.Machine.execOpenDay link tag day s
  | .closeDay link tag => Sys2Proof.Machine.execCloseDay link tag s
  | .readDay link tag => Sys2Proof.Machine.execReadDay link tag s
  | .readStart link tag => Sys2Proof.Machine.execReadStart link tag s
  | .clearAll link tag => Sys2Proof.Machine.execClearAll link tag s
  | .setLift link tag state => Sys2Proof.Machine.execSetLift link tag state s
  | .setSeats link tag seats => Sys2Proof.Machine.execSetSeats link tag seats s
  | .setPacing link tag mode settings => Sys2Proof.Machine.execSetPacing link tag mode settings s
  | .readLift link tag => Sys2Proof.Machine.execReadLift link tag s
  | .openLane link tag lane => Sys2Proof.Machine.execOpenLane link tag lane s
  | .closeLane link tag lane => Sys2Proof.Machine.execCloseLane link tag lane s
  | .clearLane link tag lane => Sys2Proof.Machine.execClearLane link tag lane s
  | .configureLane link tag lane config => Sys2Proof.Machine.execConfigureLane link tag lane config s
  | .readLane link tag lane => Sys2Proof.Machine.execReadLane link tag lane s
  | .unknownRequest link tag code => Sys2Proof.Machine.execUnknownRequest link tag code s
  | .frameDiscarded link => Sys2Proof.Machine.execFrameDiscarded link s
  | .frameGapExpiry link => Sys2Proof.Machine.execFrameGapExpiry link s
  | .byteError link => Sys2Proof.Machine.execByteError link s
  | .chipSelectRelease => Sys2Proof.Machine.execChipSelectRelease s
  | .answerSendBegin link => Sys2Proof.Machine.execAnswerSendBegin link s
  | .answerSent link => Sys2Proof.Machine.execAnswerSent link s
  | .rotorLeave lane => Sys2Proof.Machine.execRotorLeave lane s
  | .mid lane => Sys2Proof.Machine.execMid lane s
  | .returnToHome lane => Sys2Proof.Machine.execReturnToHome lane s
  | .beamSample lane level => Sys2Proof.Machine.execBeamSample lane level s
  | .carrierEdge => Sys2Proof.Machine.execCarrierEdge s
  | .settleExpiry lane homeActive => Sys2Proof.Machine.execSettleExpiry lane homeActive s
  | .creditLifeExpiry lane credit => Sys2Proof.Machine.execCreditLifeExpiry lane credit s
  | .unlockStart lane => Sys2Proof.Machine.execUnlockStart lane s
  | .unlockEnd lane => Sys2Proof.Machine.execUnlockEnd lane s
  | .passageLimitExpiry lane => Sys2Proof.Machine.execPassageLimitExpiry lane s
  | .silenceExpiry lane => Sys2Proof.Machine.execSilenceExpiry lane s
  | .beamBlockedExpiry lane => Sys2Proof.Machine.execBeamBlockedExpiry lane s
  | .lostWatchExpiry => Sys2Proof.Machine.execLostWatchExpiry s
  | .powerUp retainOk => Sys2Proof.Machine.execPowerUp retainOk s
  | .resetAsserted => Sys2Proof.Machine.execResetAsserted s
  | .resetReleased => Sys2Proof.Machine.execResetReleased s
  | .powerLoss => Sys2Proof.Machine.execPowerLoss s
  | .clearAllStart => Sys2Proof.Machine.execClearAllStart s
  | .byteReceived link byte => Sys2Proof.Machine.execByteReceived link byte s

end Sys2Proof.Machine
end

