-- ==== Sys2Proof/Machine/Step.lean ====
section
/-! DEFINITION. One step: the command at the front of the queue, or one millisecond of clock time. -/

namespace Sys2Proof.Machine

/-- With no command waiting, a part that runs lets one millisecond pass; one that is held or without power idles (R40;
log 1). -/
def idle (s : State) : State := if s.run = .running then { s with clock := s.clock + 1 } else s

/-- Take the command at the front of the queue and run it with the queue's rest. -/
def step (s : State) : Host.Outcome State Fault Refusal :=
  match s.pending with
  | [] => .next (idle s)
  | c :: rest => exec c { s with pending := rest }

/-- A word's command at the front of the queue; spec/opcode_table.json gives no row any bits, so no word spells one
(log 4). -/
def State.withFetchWord (s : State) (nbits w : Nat) : State :=
  match decodeTableWord nbits w with
  | some c => { s with pending := c :: s.pending }
  | none => s

end Sys2Proof.Machine
end

