-- ==== Sys2Proof/Safety.lean ====
section
/-! DEFINITION. The terms claims use: what a safe state of the part is, as laws of the spec that every event keeps, and a
link on which a request is acted on. -/

namespace Sys2Proof.Machine

/-! ## Pass Table and Pool -/

/-- R1, R21: the table holds at most 16,384 records, each pass number once (in ascending order), and the free count plus
the sum of all D is 131,072. -/
structure PoolLaw (s : State) : Prop where
  ascending : s.passes.Pairwise fun p q => p.number < q.number
  fits : s.passes.length ≤ Config.tableSize
  conserved : s.free + (s.passes.map Pass.days).sum = Config.poolSize

/-- R2, R7, R24, R25: a record's fields stay in their ranges, its list in strictly ascending day order within D, and its
settlement part is present exactly when it is SURRENDERED, with a refund within P. -/
structure RecordLaw (p : Pass) : Prop where
  number : passNumberOk p.number = true
  cls : classOk p.cls = true
  days : daysOk p.days = true
  paid : paidOk p.paid = true
  first : dayOk p.firstDay = true
  last : dayOk p.lastDay = true
  window : windowOk p.firstDay p.lastDay = true
  generation : p.generation < 65536
  ascending : p.uses.Pairwise fun u v => u.day < v.day
  within : p.uses.length ≤ p.days
  settled : p.state = .surrendered ↔ p.settlement.isSome = true
  refund : ∀ x ∈ p.settlement, x.refund ≤ p.paid

/-- Every record of the table keeps `RecordLaw`. -/
def RecordsLaw (s : State) : Prop := ∀ p ∈ s.passes, RecordLaw p

/-! ## Credits -/

/-- All credits of the six queues, lane 0 first. -/
def State.credits (s : State) : List Credit := s.lanes.toList.flatMap LaneUnit.queue

/-- Credits of a pass that carry a first-use link. -/
def State.linked (s : State) (n : Nat) : Nat := s.credits.countP fun c => c.pass = n ∧ c.firstUse.isSome

/-- R27, R63, R104, R151: no pass has two credits; a credit's pass has a record, which is not SURRENDERED; a record's list
holds as many TENTATIVE entries as its pass has credits with a first-use link. -/
structure CreditLaw (s : State) : Prop where
  single : (s.credits.map Credit.pass).Nodup
  record : ∀ c ∈ s.credits, ∃ p ∈ s.passes, p.number = c.pass ∧ p.state ≠ .surrendered
  tentative : ∀ p ∈ s.passes, tentatives p.uses = s.linked p.number

/-! ## Lane units -/

/-- R57, R69, R70: a queue holds at most two credits, those behind the head are HOLDING, a credit's life timer runs exactly
in HOLDING, and the times of its release and unlock are there when its state needs them. -/
structure QueueLaw (i : LaneNo) (q : List Credit) : Prop where
  two : q.length ≤ Config.queueSize
  behind : ∀ c ∈ q.tail, c.state = .holding
  lane : ∀ c ∈ q, c.lane = i
  life : ∀ c ∈ q, c.lifeEnd.isSome = true ↔ c.state = .holding
  released : ∀ c ∈ q, c.earliestUnlock.isSome = true ↔ c.state ≠ .holding
  unlocked : ∀ c ∈ q, c.unlockEnd.isSome = true ↔ (c.state = .unlocked ∨ c.state = .passing)

/-- The tracker and the classifier run (R79). -/
def GateState.reads (g : GateState) : Bool := g ≠ .off && g ≠ .settling

/-- R79, R80, R84: the gate state follows the head credit in service; out of service only CLOSING holds a credit, a PASSING
one, and a CLOSING lane with an empty queue has its rotor away, or about to leave (R101; log 30). -/
def GateLaw (leaving : Prop) (u : LaneUnit) : Prop :=
  match u.gate with
  | .ready => u.queue = []
  | .holding => u.queue.head?.map Credit.state = some .holding
  | .released => u.queue.head?.map Credit.state = some .released
  | .unlocked => u.queue.head?.map Credit.state = some .unlocked
  | .passing => u.queue.head?.map Credit.state = some .passing
  | .off => u.queue = []
  | .settling => u.queue = []
  | .fault => u.queue = []
  | .closing => (u.queue = [] ∧ (u.tracker ≠ .home ∨ leaving)) ∨ u.queue.map Credit.state = [.passing]

/-- R79, R82, R85, R87, R91, R97: tracker and classifier run in every state but OFF and SETTLING, a rotation record is open
exactly while the rotor is away, an UNLOCKED head has the rotor at HOME and a PASSING one a CREDITED rotation of its own
before MID, and each timer runs only where its rule lets it. -/
structure SensorLaw (u : LaneUnit) : Prop where
  tracker : u.tracker ≠ .notRead ↔ u.gate.reads = true
  beam : u.beam.isSome = true ↔ u.gate.reads = true
  rotation : u.rotation.isSome = true ↔ (u.tracker = .awayFirst ∨ u.tracker = .awaySecond)
  unlocked : u.gate = .unlocked → u.tracker = .home
  passing : ∀ c ∈ u.queue.head?, c.state = .passing →
    u.tracker = .awayFirst ∧ u.rotation.map Rotation.kind = some (.credited c.number)
  settle : u.settleEnd.isSome = true ↔ u.gate = .settling
  silence : u.gate = .off → u.silenceEnd = none
  passage : u.passageFrom.isSome = true → u.rotation.isSome = true
  blocked : u.blockedFrom.isSome = true → u.tracker = .home ∧ u.beam = some .broken

/-- The head credit holds the unlock output active (R93). -/
def LaneUnit.headUnlocked (u : LaneUnit) : Bool :=
  u.queue.head?.any fun c => c.state = .unlocked || c.state = .passing

/-- The laws of one lane unit; `leaving` says that its rotor's leave is the next event the part takes. -/
structure LaneLaw (leaving : Prop) (i : LaneNo) (u : LaneUnit) : Prop where
  queue : QueueLaw i u.queue
  gate : GateLaw leaving u
  sensors : SensorLaw u

/-- R57, R69, R79, R80, R84, R93: every lane unit keeps its laws; while the part runs, a lane's unlock output is active
exactly while its head credit is UNLOCKED or PASSING and its sensor power in every gate state but OFF; both are inactive
while the part does not run. -/
structure LanesLaw (s : State) : Prop where
  lane : ∀ i, LaneLaw (s.run = .running ∧ s.pending.head? = some (.rotorLeave i)) i (s.lane i)
  outputs : ∀ i, s.run = .running →
    (s.lane i).unlockOut = (s.lane i).headUnlocked ∧ (s.lane i).sensorPower = decide ((s.lane i).gate ≠ .off)
  held : ∀ i, s.run ≠ .running → (s.lane i).unlockOut = false ∧ (s.lane i).sensorPower = false

/-- R47, R48: while the day is CLOSED every queue is empty; while it is CLOSING some queue is not, and every credit is
UNLOCKED or PASSING. -/
structure DayLaw (s : State) : Prop where
  closed : s.day = .closed → s.credits = []
  closing : s.day = .closing → s.credits ≠ [] ∧ ∀ c ∈ s.credits, c.notUnlocked = false

/-- A count of R121 has reached its top. -/
def LaneCounts.saturated (c : LaneCounts) : Prop :=
  countTop ≤ c.grants ∨ countTop ≤ c.passages ∨ countTop ≤ c.expiredUnreleased ∨ countTop ≤ c.expiredUnused ∨
    countTop ≤ c.withdrawn

/-- R121: in every lane grants equal the four outcome counts plus the credits queued, unless one of them is saturated. -/
def BalanceLaw (s : State) : Prop :=
  ∀ i, (s.lane i).counts.saturated ∨
    (s.lane i).counts.grants = (s.lane i).counts.passages + (s.lane i).counts.expiredUnreleased +
      (s.lane i).counts.expiredUnused + (s.lane i).counts.withdrawn + (s.lane i).queue.length

/-! ## Carrier Pacer -/

/-- R124 to R134: settings and seats in range, at most four intervals, each within the interval limits, no slot in FREE
mode, a slot's released count within its capacity, and the lost watch running exactly in PACED mode with the lift RUNNING
and tracking TRACKING. -/
structure PacerLaw (p : Pacer) : Prop where
  settings : clampPacing p.settings = p.settings
  active : 1 ≤ p.activeSeats ∧ p.activeSeats ≤ 8
  pending : 1 ≤ p.pendingSeats ∧ p.pendingSeats ≤ 8
  history : p.history.length ≤ Config.historySize
  intervals : ∀ g ∈ p.history, p.settings.intervalMin ≤ g ∧ g ≤ p.settings.intervalMax
  free : p.mode = .free → p.slot = none
  seats : ∀ k ∈ p.slot, k.released ≤ k.capacity ∧ k.capacity ≤ 8
  watch : p.watchRunning = true ↔ (p.mode = .paced ∧ p.lift = .running ∧ p.tracking = .tracking)

/-! ## Journal and Event Status -/

/-- R157: 1 to 1,024 records, with consecutive sequence numbers that end one below the next sequence number, modulo
2^32. -/
structure JournalLaw (s : State) : Prop where
  held : s.journal ≠ []
  fits : s.journal.length ≤ Config.ringSize
  next : s.nextSeq < Config.seqTop
  seqs : s.journal.map JournalRecord.seq =
    (List.range s.journal.length).map fun k =>
      (s.nextSeq + Config.seqTop - s.journal.length + k) % Config.seqTop

/-- R164, R166, R182: each pending set holds pairs of its own scope once each, in the order of R167; while the part runs
the line is active exactly when a pending pair's level is above the mask, and else inactive. -/
structure AttentionLaw (s : State) : Prop where
  sets : ∀ l, (s.link l).pairs.Pairwise fun p q => p.rank < q.rank
  scope : ∀ l, ∀ p ∈ (s.link l).pairs, inScope p l = true
  line : ∀ l, s.run = .running → (s.link l).attention = lineActive s.levels (s.link l).mask (s.link l).pairs
  held : ∀ l, s.run ≠ .running → (s.link l).attention = false

/-! ## Link Interface -/

/-- R169, R173, R174, R176: the output queue holds the answer of the request in progress once, under its code and tag, and
no other answer of a request; at most one BUSY answer not begun; only the first answer may have begun; a driver is enabled
only on a lane link whose first answer has begun. -/
structure EndpointLaw (l : LinkNo) (e : Endpoint) : Prop where
  slot : (e.output.filter fun a => !a.isBusy).map (fun a => (a.code, a.tag)) = e.slot.toList
  busy : e.output.countP (fun a => a.isBusy && !a.begun) ≤ 1
  behind : ∀ a ∈ e.output.tail, a.begun = false
  driver : e.driver = true → isLaneLink l = true ∧ (e.output.head?.any OutAnswer.begun) = true

/-- R169: every endpoint keeps its law. -/
def LinksLaw (s : State) : Prop := ∀ l, EndpointLaw l (s.link l)

/-! ## Ranges -/

/-- R37, R40, R44, R67, R76, R163, R165: the stored settings, offset, last-opened day, next credit numbers, levels and
masks stay in their ranges. -/
structure RangeLaw (s : State) : Prop where
  tariffs : ∀ k : Fin 8, tariffBad k.val (s.tariffs.get k) = none
  offset : s.offset < Config.dayMs
  lastOpened : s.lastOpened ≤ 65535
  configs : ∀ i, clampConfig (s.lane i).config = (s.lane i).config
  nextCredits : ∀ i, 1 ≤ (s.lane i).nextCredit ∧ (s.lane i).nextCredit ≤ 65535
  levels : levelBad s.levels = none
  masks : ∀ l, (s.link l).mask ≤ 7

/-! ## Taking a request -/

/-- A frame that reaches the link is taken and its request acted on: the part runs, the link's driver is disabled and its
request slot is EMPTY (R173, R176). -/
def Takes (s : State) (l : LinkNo) : Prop :=
  s.run = .running ∧ (s.link l).driver = false ∧ (s.link l).slot = none

/-- The state in which a taken frame's request is acted on: the receiver IDLE and, on a lane link, the link ALIVE with its
silence timer restarted (R97, R172, R173). -/
def State.taken (s : State) (l : LinkNo) : State := (s.idleReceiver l).reviveLink l

/-- The next state of a taken request that changes nothing but its link: its answer queued, its slot IN PROGRESS (R173). -/
def State.answered (s : State) (l : LinkNo) (code tag : Nat) (a : Answer) : State := (s.taken l).reply l code tag a

/-- Commands taken one after the other, up to the first that gives no next state. -/
def runAll : List Instr → State → Result
  | [], s => .next s
  | c :: cs, s =>
    match exec c s with
    | .next t => runAll cs t
    | .fault r => .fault r
    | .refused r => .refused r

/-- A link of a role that may not make the request of a code (R178). -/
def wrongRole (code : Nat) (l : LinkNo) : Prop :=
  (code ≤ 3 ∧ 6 ≤ l.val) ∨ (6 ≤ code ∧ code ≤ 8 ∧ l.val < 6) ∨ (16 ≤ code ∧ code ≤ 32 ∧ l.val ≠ 6) ∨
    (48 ≤ code ∧ l.val ≠ 7)

end Sys2Proof.Machine
end

