-- ==== Sys2Proof/Certificates/Slice0/Obligations.lean ====
section
/-! DEFINITION. The statements for the provers. Each says in its docstring which rules of spec/ it rests on; a clause on the
model's own choice names its log entry. -/

open Sys2Proof Sys2Proof.Machine

/-! ## The step and the queue -/

/-- The command at the front of the queue is the one that runs, on the state with the queue's rest. The queue of waiting
commands is the model's choice (log 4); each is taken whole, one after the other (R19). -/
def Obligations.StepRunsTheFrontCommand : Prop :=
  ∀ (c : Instr) (rest : List Instr) (s : State), s.pending = c :: rest → step s = exec c { s with pending := rest }

/-- The model's choice (log 1): with no command waiting a running part lets one millisecond pass (R40), and a part that
is held or without power idles. -/
def Obligations.EmptyQueueLetsOneMillisecondPass : Prop :=
  ∀ s : State, s.pending = [] →
    (s.run = .running → step s = .next { s with clock := s.clock + 1 }) ∧ (s.run ≠ .running → step s = .next s)

/-- No command stops the part: a refusal of the spec is an answer (R179), and a command that cannot come, or whose operands
do not fit, has a next state by the model's choice (logs 6 and 27). None touches the commands that wait, whose queue is the
model's choice too (log 4). -/
def Obligations.EveryCommandHasANextState : Prop :=
  ∀ (c : Instr) (s : State), ∃ t, exec c s = .next t ∧ t.pending = s.pending

/-- R182: RESET and a power loss make every unlock, sensor-power and attention output inactive and disable every driver; a
part that is held takes no frame, field input or timer event. What a held part keeps, and what RESET and power do to a part
that does not run, is the model's choice (logs 6 and 26). -/
def Obligations.ResetAndPowerStopThePart : Prop :=
  ∀ s : State,
    let quiet (r : RunState) : State := { s with
      run := r
      lanes := s.lanes.map fun u => { u with unlockOut := false, sensorPower := false }
      links := s.links.map fun e => { e with attention := false, driver := false } }
    (s.run = .running →
      exec .resetAsserted s = .next (quiet .heldReset) ∧ exec .powerLoss s = .next (quiet (.off false)) ∧
      exec .resetReleased s = .next s ∧ ∀ b, exec (.powerUp b) s = .next s) ∧
    (s.run ≠ .running → ∀ c : Instr, (∀ b, c ≠ .powerUp b) → c ≠ .resetAsserted → c ≠ .resetReleased →
      c ≠ .powerLoss → exec c s = .next s) ∧
    (s.run = .off true → ∀ b, exec (.powerUp b) s = .next { s with run := .heldPowerUp b }) ∧
    (∀ b, s.run = .off b →
      exec .resetAsserted s = .next { s with run := .off true } ∧
      exec .resetReleased s = .next { s with run := .off false } ∧ exec .powerLoss s = .next s) ∧
    (s.run = .heldReset ∨ (∃ b, s.run = .heldPowerUp b) →
      exec .resetAsserted s = .next s ∧ exec .powerLoss s = .next { s with run := .off true } ∧
      ∀ b, exec (.powerUp b) s = .next s)

/-! ## Frames and links -/

/-- R173, R174, R176: a frame taken while the request slot is IN PROGRESS is answered BUSY, naming the request in progress,
in place of a BUSY answer not begun, and its request is not acted on. A frame that reaches a link whose driver is enabled is
lost whole (log 7, DEDUCED): it changes nothing. -/
def Obligations.RequestDuringAnotherIsBusy : Prop :=
  ∀ (i : Instr) (l : LinkNo) (code tag : Nat) (body : List Byte) (s : State),
    requestParts i = some (l, code, tag, body) → s.run = .running →
    (∀ now, (s.link l).driver = false → (s.link l).slot = some now →
      exec i s = .next ((s.taken l).modLink l fun e =>
        { e with output := (e.output.filter fun a => !(a.isBusy && !a.begun)) ++
            [{ code := code, tag := tag, answer := .busy now.2 now.1, begun := false }] })) ∧
    ((s.link l).driver = true → exec i s = .next s)

/-- R173, R178: a request of R178 on a link whose role may not make it is answered REFUSED ROLE, and a good frame whose
code is not in R178 UNKNOWN REQUEST on every link; neither is acted on. -/
def Obligations.WrongRoleAndUnknownCodeAreAnswered : Prop :=
  (∀ (i : Instr) (l : LinkNo) (code tag : Nat) (body : List Byte) (s : State),
    requestParts i = some (l, code, tag, body) → isRequestCode code = true → wrongRole code l → Takes s l →
    exec i s = .next (s.answered l code tag .refusedRole)) ∧
  (∀ (l : LinkNo) (tag code : Nat) (s : State), isRequestCode code = false → Takes s l →
    exec (.unknownRequest l tag code) s = .next (s.answered l code tag .unknownRequest))

/-- R97, R172, R173: what a taken frame and its answer change: the receiver goes IDLE, the slot is IN PROGRESS and the
answer queued last; on a lane link the link is ALIVE, with its silence timer restarted unless the lane is OFF; on an office
link with nothing queued a filler byte may come first, the model's choice of how R177 leaves that open (log 22). -/
def Obligations.TakenFrameChangesItsLinkOnly : Prop :=
  ∀ (s : State) (l : LinkNo) (code tag : Nat) (a : Answer),
    s.answered l code tag a =
      { s with
        links := s.links.set l { s.links.get l with
          receiver := .idle
          slot := some (code, tag)
          output := (s.links.get l).output ++ [{ code := code, tag := tag, answer := a, begun := false }] }
        lanes :=
          if h : l.val < 6 then
            s.lanes.set ⟨l.val, h⟩ { s.lanes.get ⟨l.val, h⟩ with
              link := .alive
              silenceEnd :=
                if (s.lanes.get ⟨l.val, h⟩).gate = .off then (s.lanes.get ⟨l.val, h⟩).silenceEnd
                else some (s.clock + (s.lanes.get ⟨l.val, h⟩).config.silenceLimit * 1000) }
          else s.lanes
        office :=
          if l = officeLink ∧ (s.links.get l).output = [] then { s.office with fillerOpen := true } else s.office }

/-- R170 to R173, R178: the frame a master writes for a well-formed request is read back as that request, with every
operand; a frame with a code not in R178 is read as an unknown request, whatever its body of 0 to 240 bytes. -/
def Obligations.RequestFrameIsReadBack : Prop :=
  (∀ (i : Instr) (l : LinkNo) (bs : List Byte), i.wf = true → requestFrame i = some (l, bs) →
    frameRequest l bs = some i) ∧
  (∀ (l : LinkNo) (code tag : Nat) (body : List Byte), code < 256 → tag < 256 → isRequestCode code = false →
    body.length ≤ 240 →
    frameRequest l (frameOf requestMarker code tag body) = some (.unknownRequest l tag code))

/-- R172, R173: the bytes of a request's frame, one BYTE_RECEIVED each, leave a link where the request's command leaves it
(log 5, DEDUCED), and so do those of a frame with an unknown code and any body. On the office link, here with nothing to
read, each byte in clocks 0x00 out before it is taken (R177, log 21). -/
def Obligations.BytesOfAFrameTakeItsRequest : Prop :=
  ∀ (i : Instr) (l : LinkNo) (bs : List Byte) (s : State), i.wf = true →
    (requestFrame i = some (l, bs) ∨
      ∃ code tag body, i = .unknownRequest l tag code ∧ body.length ≤ 240 ∧
        bs = frameOf requestMarker code tag body) →
    s.run = .running → (s.link l).driver = false → (s.link l).receiver = .idle →
    (l ≠ officeLink → runAll (bs.map (Instr.byteReceived l)) s = exec i s) ∧
    (l = officeLink → (s.link officeLink).output = [] →
      runAll (bs.map (Instr.byteReceived l)) s = exec i { s with office := { s.office with dataOut := 0#8 } })

/-- R172, R173, R176: what one byte does at a UART link's receiver: only a marker begins a frame, a length above 240 ends it
at once, a frame that fails its checks is discarded, one that passes them takes its request (log 5, DEDUCED), and any other
byte joins the partial frame and restarts the gap timer. A link whose driver is enabled takes no byte (log 7, DEDUCED). -/
def Obligations.OneByteAtAUartReceiver : Prop :=
  ∀ (l : LinkNo) (b : Byte) (s : State), l ≠ officeLink → s.run = .running →
    ((s.link l).driver = true → exec (.byteReceived l b) s = .next s) ∧
    ((s.link l).driver = false → (s.link l).receiver = .idle →
      exec (.byteReceived l b) s =
        .next (if b = 0xD3#8 then s.modLink l fun e => { e with receiver := .receiving [b] s.clock } else s)) ∧
    (∀ before t, (s.link l).driver = false → (s.link l).receiver = .receiving before t →
      (before.length = 3 → 240 < b.toNat →
        exec (.byteReceived l b) s = .next (s.modLink l fun e => { e with receiver := .idle })) ∧
      (before.length < 3 ∨ (before.length = 3 ∧ b.toNat ≤ 240) ∨
          (4 ≤ before.length ∧ (before.getD 3 0#8).toNat ≤ 240 ∧ before.length < 5 + (before.getD 3 0#8).toNat) →
        exec (.byteReceived l b) s =
          .next (s.modLink l fun e => { e with receiver := .receiving (before ++ [b]) s.clock })) ∧
      (4 ≤ before.length → (before.getD 3 0#8).toNat ≤ 240 → before.length = 5 + (before.getD 3 0#8).toNat →
        (frameGood (before ++ [b]) = false →
          exec (.byteReceived l b) s = .next (s.modLink l fun e => { e with receiver := .idle })) ∧
        (∀ i, frameRequest l (before ++ [b]) = some i → exec (.byteReceived l b) s = exec i s)))

/-- R172, R176, R177: the four ends of a partial frame; a frame gap and a byte error belong to UART links, and a lane link
whose driver is enabled takes no bytes. The clock moves forward to the gap's end (log 2). -/
def Obligations.PartialFramesEnd : Prop :=
  ∀ (l : LinkNo) (s : State), s.run = .running →
    exec (.frameDiscarded l) s =
      .next (if (s.link l).driver then s else s.modLink l fun e => { e with receiver := .idle }) ∧
    exec (.byteError l) s =
      .next (if l = officeLink ∨ (s.link l).driver then s else s.modLink l fun e => { e with receiver := .idle }) ∧
    exec .chipSelectRelease s = .next (s.modLink officeLink fun e => { e with receiver := .idle }) ∧
    (∀ bytes since, (s.link l).receiver = .receiving bytes since → l ≠ officeLink →
      exec (.frameGapExpiry l) s =
        .next (State.modLink { s with clock := max s.clock (since + 10) } l fun e => { e with receiver := .idle })) ∧
    ((s.link l).receiver = .idle ∨ l = officeLink → exec (.frameGapExpiry l) s = .next s)

/-- R174, R176: the first answer of a UART link begins to leave, with the driver of a lane link; when it has left, the
slot is EMPTY unless it was a BUSY answer, the next answer begins at once (log 18), and the driver is disabled when none is
left. -/
def Obligations.UartAnswersLeaveInOrder : Prop :=
  ∀ (l : LinkNo) (s : State), l ≠ officeLink → s.run = .running →
    ((s.link l).output = [] → exec (.answerSendBegin l) s = .next s ∧ exec (.answerSent l) s = .next s) ∧
    (∀ a as, (s.link l).output = a :: as →
      (a.begun = false →
        exec (.answerSendBegin l) s = .next (s.modLink l fun e =>
          { e with output := { a with begun := true } :: as, driver := decide (l.val < 6) })) ∧
      (a.begun = true → exec (.answerSendBegin l) s = .next s) ∧
      exec (.answerSent l) s = .next (s.modLink l fun e =>
        { e with
          output := as.modifyHead fun b => { b with begun := true }
          slot := if a.isBusy then e.slot else none
          driver := decide (l.val < 6 ∧ as ≠ []) }))

/-- R172, R174, R177: each byte clocked on the office link first sends a byte out, `State.clockOut` (log 21, a choice): 0x00
with no answer queued, else the next byte of the first answer, whose last byte empties the slot. The byte in is then taken: by
an IDLE receiver it is discarded unless it is the marker; by a RECEIVING one it joins the frame or ends it, and a frame that
passes its checks takes its request (log 5, DEDUCED). CLEAR ALL's answer leaves as any other up to its last byte, which O51
states with its start; a filler byte is O14's. -/
def Obligations.OfficeAnswersAreClockedOut : Prop :=
  (∀ s : State,
    ((s.link officeLink).output = [] → s.clockOut = { s with office := { s.office with dataOut := 0#8 } }) ∧
    (∀ a as, (s.link officeLink).output = a :: as → s.office.fillerOpen = false →
      (s.office.readPos + 1 < a.bytes.length →
        s.clockOut =
          { s.modLink officeLink fun e => { e with output := { a with begun := true } :: as, driver := false } with
            office := { readPos := s.office.readPos + 1, fillerOpen := false
                        dataOut := a.bytes.getD s.office.readPos 0#8 } }) ∧
      (a.bytes.length ≤ s.office.readPos + 1 → a.answer ≠ .cleared →
        s.clockOut =
          { s.modLink officeLink fun e =>
              { e with output := as, slot := if a.isBusy then e.slot else none } with
            office := { readPos := 0, fillerOpen := false, dataOut := a.bytes.getLastD 0#8 } }))) ∧
  (∀ (b : Byte) (s : State), s.run = .running →
    (∀ a ∈ (s.link officeLink).output.head?, a.answer = .cleared → s.office.readPos + 1 < a.bytes.length) →
    let out := s.clockOut
    let idle : State := out.modLink officeLink fun e => { e with receiver := .idle }
    let holding (bytes : List Byte) : State :=
      out.modLink officeLink fun e => { e with receiver := .receiving bytes s.clock }
    let run := exec (.byteReceived officeLink b) s
    ((s.link officeLink).receiver = .idle → run = .next (if b = 0xD3#8 then holding [b] else out)) ∧
    (∀ before since, (s.link officeLink).receiver = .receiving before since →
      (before.length = 3 → 240 < b.toNat → run = .next idle) ∧
      (before.length < 3 ∨ (before.length = 3 ∧ b.toNat ≤ 240) ∨
          (4 ≤ before.length ∧ (before.getD 3 0#8).toNat ≤ 240 ∧ before.length < 5 + (before.getD 3 0#8).toNat) →
        run = .next (holding (before ++ [b]))) ∧
      (4 ≤ before.length → (before.getD 3 0#8).toNat ≤ 240 → before.length = 5 + (before.getD 3 0#8).toNat →
        (frameGood (before ++ [b]) = false → run = .next idle) ∧
        (∀ i, frameRequest officeLink (before ++ [b]) = some i → run = exec i out))))

/-- R177: the answer just queued is preceded by at most one filler byte: the first clocked byte is the filler or the
answer's marker, whichever the free value says (log 22), and no filler is open after it. -/
def Obligations.AtMostOneFillerByte : Prop :=
  ∀ (b : Byte) (s : State) (a : OutAnswer) (as : List OutAnswer), s.run = .running →
    (s.link officeLink).receiver = .idle → b ≠ 0xD3#8 → (s.link officeLink).output = a :: as →
    s.office.fillerOpen = true → s.office.readPos = 0 →
    ∃ t, exec (.byteReceived officeLink b) s = .next t ∧ t.office.fillerOpen = false ∧
      ((t.office.dataOut = 0#8 ∧ t.office.readPos = 0 ∧ t.links = s.links) ∨
        (t.office.dataOut = 0xD4#8 ∧ t.office.readPos = 1 ∧
          (t.link officeLink).output = { a with begun := true } :: as))

/-- R174, R176, R177 on the office link as whole events: the first answer begins, and has left (log 19). -/
def Obligations.OfficeAnswerEvents : Prop :=
  ∀ (s : State), s.run = .running →
    ((s.link officeLink).output = [] →
      exec (.answerSendBegin officeLink) s = .next s ∧ exec (.answerSent officeLink) s = .next s) ∧
    (∀ a as, (s.link officeLink).output = a :: as →
      (a.begun = false →
        exec (.answerSendBegin officeLink) s =
          .next { s.modLink officeLink fun e => { e with output := { a with begun := true } :: as, driver := false } with
            office := { readPos := 1, fillerOpen := false, dataOut := 0xD4#8 } }) ∧
      (a.answer ≠ .cleared →
        exec (.answerSent officeLink) s =
          .next { s.modLink officeLink fun e =>
              { e with output := as, slot := if a.isBusy then e.slot else none } with
            office := { readPos := 0, fillerOpen := false, dataOut := a.bytes.getLastD 0#8 } }))

/-- R170, R171, R175: an answer leaves in segments that carry its data in order, 238 bytes in each but the last, each under
its marker, code, tag, body length and status, its index, and bit 7 on the last alone, with its CRC at the end, computed bit
by bit with x^16 + x^12 + x^5 + 1 from 0xFFFF. READ LANE reaches two segments with a full queue and not else, by the length
log 16 deduces from the worked sequence. -/
def Obligations.SegmentsCarryTheWholeAnswer : Prop :=
  (crc [] = 0xFFFF ∧
    ∀ (bs : List Byte) (b : Byte), crc (bs ++ [b]) =
      ((List.range 8).foldl (fun (r : BitVec 16) k => (r <<< 1) ^^^ (if r.msb ^^ b.getMsbD k then 0x1021#16 else 0#16))
        (BitVec.ofNat 16 (crc bs))).toNat) ∧
  (∀ (a : OutAnswer) (r : LaneReport), a.answer = .lane r → r.queue.length ≤ 2 →
    a.frames.map List.length = if r.queue.length = 2 then [246, 24] else [164 + 49 * r.queue.length]) ∧
  ∀ a : OutAnswer,
    (a.frames.flatMap fun f => (f.drop 6).take (f.length - 8)) = a.answer.data ∧
    (∀ k f, a.frames[k]? = some f →
      f.length ≤ 246 ∧
      (k + 1 < a.frames.length → f.length = 246) ∧
      f[3]? = some (BitVec.ofNat 8 (f.length - 6)) ∧
      f.drop (f.length - 2) =
        [BitVec.ofNat 8 (crc ((f.drop 1).take (f.length - 3)) / 256), BitVec.ofNat 8 (crc ((f.drop 1).take (f.length - 3)))] ∧
      f.take 3 = [0xD4#8, BitVec.ofNat 8 a.code, BitVec.ofNat 8 a.tag] ∧
      (f.drop 4).take 2 = [BitVec.ofNat 8 a.answer.status,
        BitVec.ofNat 8 (k + if k + 1 = a.frames.length then 128 else 0)])

/-! ## Shared effects -/

/-- R157 to R159: an append takes the next sequence number, which rises by one modulo 2^32, under the stamp of the Day
Clock; a full ring loses its oldest record; nothing else changes. -/
def Obligations.AppendTakesTheNextSequence : Prop :=
  ∀ (s : State) (body : JournalBody),
    s.append body =
      { s with
        journal := (if s.journal.length < 1024 then s.journal else s.journal.tail) ++
          [{ seq := s.nextSeq
             stamp :=
              if s.clockSet then
                some { day := if s.day = .closed then 0 else s.lastOpened
                       timeOfDay := (s.clock + s.offset) % 86400000 }
              else none
             body := body }]
        nextSeq := (s.nextSeq + 1) % 4294967296 }

/-- R162, R164, R166: a pair of a lane's kind is heard by the lane's own link, the office link and the console link, a
lift-wide one by all eight, each under the level its kind has in the table. A raised pair enters the pending set of every link
that hears it and of no other, once, and those lines are decided afresh; nothing but the links changes. The levels after a cold
start are those of R162. -/
def Obligations.RaisedPairEntersTheLinksInScope : Prop :=
  (∀ (k : LaneEvent) (i : LaneNo) (l : LinkNo),
    inScope (.atLane k i) l = true ↔ l = linkOfLane i ∨ l = officeLink ∨ l = consoleLink) ∧
  (∀ (k : LiftEvent) (l : LinkNo), inScope (.lift k) l = true) ∧
  (∀ (v : Levels) (i : LaneNo),
    ([LaneEvent.passage, .backout, .creditEnded, .laneReady, .untaggedRider, .beamBlocked, .linkSilent, .laneFault].map
      fun k => levelOf v (.atLane k i)) =
      [v.passage, v.backout, v.creditEnded, v.laneReady, v.untaggedRider, v.beamBlocked, v.linkSilent, v.laneFault] ∧
    ([LiftEvent.carrierRegained, .dayState, .carrierLost].map fun k => levelOf v (.lift k)) =
      [v.carrierRegained, v.dayState, v.carrierLost]) ∧
  State.reset.levels =
    { passage := 0, backout := 1, creditEnded := 2, laneReady := 2, untaggedRider := 3, beamBlocked := 4, linkSilent := 5
      laneFault := 6, carrierRegained := 3, dayState := 2, carrierLost := 6 } ∧
  ∀ (s : State) (p : EventPair),
    (∀ l, inScope p l = false → (s.raise p).link l = s.link l) ∧
    (∀ l, inScope p l = true →
      (∀ q, q ∈ ((s.raise p).link l).pairs ↔ q = p ∨ q ∈ (s.link l).pairs) ∧
      (((s.link l).pairs.Pairwise fun q r => q.rank < r.rank) →
        ((s.raise p).link l).pairs.Pairwise fun q r => q.rank < r.rank) ∧
      ((s.raise p).link l).attention =
        (((s.raise p).link l).pairs.any fun q => decide ((s.link l).mask < levelOf s.levels q)) ∧
      { (s.raise p).link l with pairs := (s.link l).pairs, attention := (s.link l).attention } = s.link l) ∧
    { s.raise p with links := s.links } = s

/-- R103 to R107, R119: what the end of a credit does, whatever its outcome but WITHDRAWN START (a start has its own rules:
R183) and wherever it stands in the queue: to its lane, its pass, the Journal, the pending sets, their lines and the day; every
other lane, the rest of each endpoint and all else stays. The four counts of an outcome saturate, and in service the gate
state follows the head credit. -/
def Obligations.CreditEndHasItsEffects : Prop :=
  (∀ n : LaneCounts,
    n.countOutcome .passed = { n with passages := min (n.passages + 1) 4294967295 } ∧
    n.countOutcome .expiredUnreleased = { n with expiredUnreleased := min (n.expiredUnreleased + 1) 4294967295 } ∧
    n.countOutcome .expiredUnused = { n with expiredUnused := min (n.expiredUnused + 1) 4294967295 } ∧
    ∀ cause, n.countOutcome (.withdrawn cause) = { n with withdrawn := min (n.withdrawn + 1) 4294967295 }) ∧
  (∀ g : GateState, g.inService = true ↔ g = .ready ∨ g = .holding ∨ g = .released ∨ g = .unlocked ∨ g = .passing) ∧
  (gateOfQueue [] = .ready ∧ ∀ (c : Credit) (cs : List Credit),
    (c.state = .holding → gateOfQueue (c :: cs) = .holding) ∧ (c.state = .released → gateOfQueue (c :: cs) = .released) ∧
    (c.state = .unlocked → gateOfQueue (c :: cs) = .unlocked) ∧ (c.state = .passing → gateOfQueue (c :: cs) = .passing)) ∧
  ∀ (s : State) (i : LaneNo) (place : Nat) (o : CreditOutcome) (c : Credit), o ≠ .withdrawn .start →
    (s.lane i).queue[place]? = some c →
    let t := s.endCredit i place o
    let u := s.lane i
    let rest := u.queue.eraseIdx place
    let drained : Prop := s.day = .closing ∧ t.credits = []
    let logged := (if o = .passed then s.append (.passage i c.pass c.number c.firstUse c.slot u.rotationTime)
      else s).append (.creditEnded i c.pass c.number o (decide (c.firstUse ≠ none ∧ o ≠ .passed)))
    (t.lane i).queue = rest ∧
    (t.lane i).lastEnded = some (c.number, o) ∧
    (t.lane i).counts = u.counts.countOutcome o ∧
    (u.gate.inService = true →
      (t.lane i).gate = gateOfQueue rest ∧
      (t.lane i).unlockOut = (u.unlockOut && decide (c.state = .holding ∨ c.state = .released))) ∧
    (u.gate = .closing → (t.lane i).gate = if rest = [] ∧ u.tracker = .home then .off else .closing) ∧
    (u.gate = .fault → (t.lane i).gate = .fault) ∧
    (let v := { t.lane i with queue := u.queue, gate := u.gate, lastEnded := u.lastEnded, counts := u.counts }
      if u.gate = .closing ∧ rest = [] ∧ u.tracker = .home then
        v = { u with
          sensorPower := false, unlockOut := false, tracker := .notRead, rotation := none, beam := none
          lastSample := none, firstSample := true, settleEnd := none, passageFrom := none, blockedFrom := none
          silenceEnd := none }
      else v = { u with unlockOut := u.unlockOut && decide (c.state = .holding ∨ c.state = .released) }) ∧
    (∀ j, j ≠ i → t.lane j = s.lane j) ∧
    t.passes = s.passes.map (fun p =>
      if p.number = c.pass then
        { p with
          uses :=
            if c.firstUse = none then p.uses
            else if o = .passed then p.uses.map fun x => { x with status := .final }
            else p.uses.filter fun x => decide (x.status = .final)
          generation := if c.firstUse = none then p.generation else (p.generation + 1) % 65536
          lastPassage :=
            if o = .passed then
              some { day := s.currentDay, timeOfDay := s.timeOfDay, lane := i }
            else p.lastPassage
          holdEnd := if o = .passed then some (s.clock + (s.tariffOf p.cls).hold * 60000) else p.holdEnd }
      else p) ∧
    (drained → t.day = .closed ∧
      t.journal = (State.append { logged with day := .closed } (.dayClosed s.lastOpened
        (t.sumCounts LaneCounts.passages) (t.sumCounts fun x => x.tailgates + x.forced))).journal) ∧
    (¬ drained → t.day = s.day ∧ t.journal = logged.journal ∧ t.nextSeq = logged.nextSeq) ∧
    (∀ l q, q ∈ (t.link l).pairs ↔
      q ∈ (s.link l).pairs ∨ (q = .atLane .creditEnded i ∧ inScope q l = true) ∨
        (o = .passed ∧ q = .atLane .passage i ∧ inScope q l = true) ∨ (drained ∧ q = .lift .dayState)) ∧
    (∀ l,
      (t.link l).attention =
        (if (s.day = .closing ∧ t.credits = []) ∨ l = linkOfLane i ∨ l = officeLink ∨ l = consoleLink then
          (t.link l).pairs.any fun q => decide ((s.link l).mask < levelOf s.levels q)
        else (s.link l).attention) ∧
      { t.link l with pairs := (s.link l).pairs, attention := (s.link l).attention } = s.link l) ∧
    t.pending = s.pending ∧ t.freeCount = s.freeCount ∧
    t.run = s.run ∧ t.free = s.free ∧ t.tariffs = s.tariffs ∧ t.clock = s.clock ∧ t.offset = s.offset ∧
    t.clockSet = s.clockSet ∧ t.lastOpened = s.lastOpened ∧ t.pacer = s.pacer ∧ t.levels = s.levels ∧
    t.office = s.office ∧ t.startRecord = s.startRecord

/-- R103, R116: the withdrawals of one event in a lane end each credit it withdraws, the head before the second, with no
offer in between. R69, R103: the end of a head alone, `State.endHead`, is its end with all its effects, after which the credit
that then heads the queue is offered for release (`State.offer`, which O40 states). -/
def Obligations.WithdrawalsRunHeadFirst : Prop :=
  (∀ (s : State) (i : LaneNo) (o : CreditOutcome), s.endHead i o = (s.endCredit i 0 o).offer i) ∧
  ∀ (s : State) (i : LaneNo) (cause : Cause) (which : Credit → Bool),
    ((s.lane i).queue = [] → s.withdraw i cause which = s) ∧
    (∀ c, (s.lane i).queue = [c] →
      s.withdraw i cause which = if which c then s.endCredit i 0 (.withdrawn cause) else s) ∧
    (∀ c d, (s.lane i).queue = [c, d] →
      s.withdraw i cause which =
        let t := if which c then s.endCredit i 0 (.withdrawn cause) else s
        if which d then t.endCredit i (if which c then 0 else 1) (.withdrawn cause) else t)

/-! ## Pass Table and Day-Use Pool -/

/-- R3, R11: LOAD PASS makes its checks in order, each refusal changing nothing; a taken one creates the record of R2 and
lowers the free count by D. -/
def Obligations.LoadPassChecksThenCreates : Prop :=
  ∀ (tag n check cls days paid first last : Nat) (s : State), Takes s officeLink →
    let inRange : Prop := (1 ≤ n ∧ n ≤ 4294967294) ∧ cls ≤ 7 ∧ (1 ≤ days ∧ days ≤ 30) ∧ paid ≤ 1048575 ∧
      (1 ≤ first ∧ first ≤ 65535) ∧ (1 ≤ last ∧ last ≤ 65535) ∧ first ≤ last ∧ last ≤ first + 364
    let run := exec (.loadPass officeLink tag n check cls days paid first last) s
    (¬ inRange → run = .next (s.answered officeLink 16 tag .outOfRange)) ∧
    (inRange → (∃ p ∈ s.passes, p.number = n) → run = .next (s.answered officeLink 16 tag .duplicate)) ∧
    (inRange → (∀ p ∈ s.passes, p.number ≠ n) →
      (16384 ≤ s.passes.length → run = .next (s.answered officeLink 16 tag .tableFull)) ∧
      (s.passes.length < 16384 → s.free < days → run = .next (s.answered officeLink 16 tag (.poolFull s.free))) ∧
      (s.passes.length < 16384 → days ≤ s.free →
        run = .next (State.reply
          { s.taken officeLink with
            passes := insertPass
              { number := n, check := check, cls := cls, days := days, paid := paid, firstDay := first, lastDay := last
                state := .active, overUse := false, generation := 0, lastPassage := none, holdEnd := none, uses := []
                settlement := none } s.passes
            free := s.free - days } officeLink 16 tag (.loaded n 0 (s.free - days)))))

/-- R12, R13, R178: AMEND PASS makes its checks in order, each refusal changing nothing; a taken one replaces each carried
field, raises the generation and moves the change of D to or from the free count. -/
def Obligations.AmendPassChecksThenReplaces : Prop :=
  ∀ (tag n presence lastDay days paid cls check : Nat) (s : State), Takes s officeLink →
    let has (b : Nat) : Prop := presence.testBit b = true
    let inRange : Prop := (1 ≤ n ∧ n ≤ 4294967294) ∧ presence < 32 ∧ (has 0 → 1 ≤ lastDay ∧ lastDay ≤ 65535) ∧
      (has 1 → 1 ≤ days ∧ days ≤ 30) ∧ (has 2 → paid ≤ 1048575) ∧ (has 3 → cls ≤ 7)
    let run := exec (.amendPass officeLink tag n presence lastDay days paid cls check) s
    (¬ inRange → run = .next (s.answered officeLink 17 tag .outOfRange)) ∧
    (inRange → s.findPass n = none → run = .next (s.answered officeLink 17 tag .unknownPass)) ∧
    (∀ p, inRange → s.findPass n = some p →
      let badDay : Prop := has 0 ∧ ¬ (p.firstDay ≤ lastDay ∧ lastDay ≤ p.firstDay + 364)
      let newDays := if presence.testBit 1 then days else p.days
      (p.state = .surrendered → run = .next (s.answered officeLink 17 tag .settled)) ∧
      (p.state ≠ .surrendered → badDay → run = .next (s.answered officeLink 17 tag .outOfRange)) ∧
      (p.state ≠ .surrendered → ¬ badDay → has 1 → days < p.uses.length →
        run = .next (s.answered officeLink 17 tag (.belowUse p.uses.length))) ∧
      (p.state ≠ .surrendered → ¬ badDay → (has 1 → p.uses.length ≤ days) → has 1 → s.free + p.days < days →
        run = .next (s.answered officeLink 17 tag (.poolFull s.free))) ∧
      (p.state ≠ .surrendered → ¬ badDay → (has 1 → p.uses.length ≤ days ∧ days ≤ s.free + p.days) →
        run = .next (State.reply
          { s.taken officeLink with
            free := s.free + p.days - newDays
            passes := s.passes.map fun q =>
              if q.number = n then
                { q with
                  lastDay := if presence.testBit 0 then lastDay else q.lastDay
                  days := if presence.testBit 1 then days else q.days
                  paid := if presence.testBit 2 then paid else q.paid
                  cls := if presence.testBit 3 then cls else q.cls
                  check := if presence.testBit 4 then check else q.check
                  generation := (q.generation + 1) % 65536 }
              else q } officeLink 17 tag (.amended ((p.generation + 1) % 65536) (s.free + p.days - newDays)))))

/-- The pass requests that name a pass number: OUT OF RANGE for 0 and 4,294,967,295 and UNKNOWN PASS for a number no record
has, changing nothing (R3, R14, R16, R17, R18, R141, R148). -/
def Obligations.PassRequestsCheckTheNumber : Prop :=
  ∀ (tag n generation : Nat) (s : State), Takes s officeLink →
    let bad : Prop := n = 0 ∨ 4294967294 < n
    (bad →
      exec (.blockPass officeLink tag n) s = .next (s.answered officeLink 18 tag .outOfRange) ∧
      exec (.unblockPass officeLink tag n) s = .next (s.answered officeLink 19 tag .outOfRange) ∧
      exec (.purgePass officeLink tag n) s = .next (s.answered officeLink 20 tag .outOfRange) ∧
      exec (.readPass officeLink tag n) s = .next (s.answered officeLink 21 tag .outOfRange) ∧
      exec (.quoteRefund officeLink tag n) s = .next (s.answered officeLink 23 tag .outOfRange) ∧
      exec (.settleRefund officeLink tag n generation) s = .next (s.answered officeLink 24 tag .outOfRange)) ∧
    (¬ bad → (∀ p ∈ s.passes, p.number ≠ n) →
      exec (.blockPass officeLink tag n) s = .next (s.answered officeLink 18 tag .unknownPass) ∧
      exec (.unblockPass officeLink tag n) s = .next (s.answered officeLink 19 tag .unknownPass) ∧
      exec (.purgePass officeLink tag n) s = .next (s.answered officeLink 20 tag .unknownPass) ∧
      exec (.readPass officeLink tag n) s = .next (s.answered officeLink 21 tag .unknownPass) ∧
      exec (.quoteRefund officeLink tag n) s = .next (s.answered officeLink 23 tag .unknownPass) ∧
      exec (.settleRefund officeLink tag n generation) s = .next (s.answered officeLink 24 tag .unknownPass))

/-- R14 to R17: BLOCK PASS sets a pass that is not SURRENDERED BLOCKED; its HOLDING or RELEASED credit ends with cause PASS
BLOCKED, a second credit then offered if the head ended; an UNLOCKED or PASSING one runs on. UNBLOCK PASS makes a pass that
is not SURRENDERED ACTIVE. PURGE PASS is refused while a credit refers to the pass, and else removes the record and raises
the free count by its D. -/
def Obligations.BlockUnblockAndPurgePass : Prop :=
  ∀ (tag n : Nat) (s : State) (p : Pass), Takes s officeLink → 1 ≤ n → n ≤ 4294967294 → s.findPass n = some p →
    let run := exec (.blockPass officeLink tag n) s
    let t : State := { s.taken officeLink with
      passes := s.passes.map fun q => if q.number = n then { q with state := .blocked } else q }
    (p.state = .surrendered → run = .next (s.answered officeLink 18 tag .settled)) ∧
    (p.state ≠ .surrendered →
      ((∀ c ∈ s.credits, c.pass ≠ n) → run = .next (t.reply officeLink 18 tag (.blocked .none))) ∧
      (∀ i place c, s.creditOf n = some (i, place, c) →
        (c.state = .unlocked ∨ c.state = .passing →
          run = .next (t.reply officeLink 18 tag (.blocked (.running i c.number c.state)))) ∧
        (c.state = .holding ∨ c.state = .released →
          run = .next (State.reply
            (if place = 0 then t.endHead i (.withdrawn .passBlocked) else t.endCredit i place (.withdrawn .passBlocked))
            officeLink 18 tag (.blocked (.withdrawn i c.number)))))) ∧
    exec (.unblockPass officeLink tag n) s =
      .next (if p.state = .surrendered then s.answered officeLink 19 tag .settled
        else State.reply { s.taken officeLink with
          passes := s.passes.map fun q => if q.number = n then { q with state := .active } else q }
          officeLink 19 tag (.unblocked .active)) ∧
    (∀ i place c, s.creditOf n = some (i, place, c) →
      exec (.purgePass officeLink tag n) s = .next (s.answered officeLink 20 tag (.creditPending i c.number))) ∧
    ((∀ c ∈ s.credits, c.pass ≠ n) →
      exec (.purgePass officeLink tag n) s =
        .next (State.reply { s.taken officeLink with
          passes := s.passes.filter fun q => decide (q.number ≠ n)
          free := s.free + p.days } officeLink 20 tag (.purged (s.free + p.days))))

/-- R30, R31, R35: the refusals of MERGE USE, and a merge for a SURRENDERED pass: the over-use flag set, the generation
raised if it was clear, an OVERUSE record, the list kept. -/
def Obligations.MergeUseOutsideTheList : Prop :=
  ∀ (tag n day kind : Nat) (s : State), Takes s officeLink →
    let run := exec (.mergeUse officeLink tag n day kind) s
    let inRange : Prop := 1 ≤ n ∧ n ≤ 4294967294 ∧ kind ≤ 1
    (¬ inRange → run = .next (s.answered officeLink 22 tag .outOfRange)) ∧
    (inRange → s.findPass n = none → run = .next (s.answered officeLink 22 tag .unknownPass)) ∧
    (∀ p, inRange → s.findPass n = some p →
      let inWindow : Prop := 1 ≤ day ∧ day ≤ s.lastOpened ∧ p.firstDay ≤ day ∧ day ≤ p.lastDay
      (¬ inWindow → run = .next (s.answered officeLink 22 tag (.outOfWindow p.firstDay p.lastDay s.lastOpened))) ∧
      (inWindow → p.state = .surrendered →
        run = .next (State.reply (State.append { s.taken officeLink with
          passes := s.passes.map fun q =>
            if q.number = p.number then
              { q with
                overUse := true
                generation := if q.overUse then q.generation else (q.generation + 1) % 65536 }
            else q } (.overuse p.number day)) officeLink 22 tag (.settledMerge (p.settlement.elim 0 Settlement.refund)))))

/-- R32 to R35: a MERGE USE inside the window for a pass that is not SURRENDERED upgrades or leaves a FINAL entry of the day,
finalises the TENTATIVE one and cuts its link, inserts a FINAL entry below D, and else is refused OVER USE. -/
def Obligations.MergeUseMergesTheDay : Prop :=
  ∀ (tag n day : Nat) (kind : DayKind) (s : State) (p : Pass), Takes s officeLink → 1 ≤ n → n ≤ 4294967294 →
    s.findPass n = some p → 1 ≤ day → day ≤ s.lastOpened → p.firstDay ≤ day → day ≤ p.lastDay →
    p.state ≠ .surrendered →
    let run := exec (.mergeUse officeLink tag n day kind.code) s
    let put (uses : List DayUse) (lanes : Six LaneUnit) : State := { s.taken officeLink with
      lanes := lanes
      passes := s.passes.map fun q =>
        if q.number = p.number then { p with uses := uses, generation := (p.generation + 1) % 65536 } else q }
    let g := (p.generation + 1) % 65536
    (∀ e, findUse day p.uses = some e → e.status = .final →
      (e.kind = .half → kind = .full →
        run = .next ((put (p.uses.map fun x => if x.day = day then { x with kind := .full } else x) s.lanes).reply
          officeLink 22 tag (.merged .upgraded p.uses.length (p.days - p.uses.length) g))) ∧
      (e.kind = .full ∨ kind = .half →
        run = .next (s.answered officeLink 22 tag
          (.merged .noChange p.uses.length (p.days - p.uses.length) p.generation)))) ∧
    (∀ e, findUse day p.uses = some e → e.status = .tentative →
      run = .next ((put
        (p.uses.map fun x =>
          if x.day = day then
            { x with kind := if x.kind = .half ∧ kind = .half then .half else .full, origin := .merged, status := .final }
          else x)
        (s.lanes.map fun u =>
          { u with queue := u.queue.map fun c => if c.pass = p.number then { c with firstUse := none } else c })).reply
        officeLink 22 tag (.merged .finalised p.uses.length (p.days - p.uses.length) g))) ∧
    (findUse day p.uses = none → p.uses.length < p.days →
      run = .next ((put (insertUse { day := day, kind := kind, origin := .merged, status := .final } p.uses) s.lanes).reply
        officeLink 22 tag (.merged .inserted (p.uses.length + 1) (p.days - (p.uses.length + 1)) g))) ∧
    (findUse day p.uses = none → p.days ≤ p.uses.length →
      run = .next (State.reply (State.append { s.taken officeLink with
        passes := s.passes.map fun q =>
          if q.number = p.number then
            { q with
              overUse := true
              generation := if q.overUse then q.generation else (q.generation + 1) % 65536 }
          else q } (.overuse p.number day)) officeLink 22 tag (.overUse p.days p.uses.length)))

/-! ## Refunds -/

/-- R142 to R146: a quote's figures are the stages' values, computed in whole numbers. -/
def Obligations.QuoteFollowsTheStages : Prop :=
  ∀ (p : Pass) (t : Tariff),
    let full := p.uses.countP fun u => decide (u.kind = .full ∧ u.status = .final)
    let half := p.uses.countP fun u => decide (u.kind = .half ∧ u.status = .final)
    let c := full * t.rate + half * ((t.rate + 1) / 2)
    let a := p.paid - c
    let v := p.paid * (2 * p.days - 2 * full - half) / (2 * p.days)
    let n := min a v * t.fraction / 10000
    let g := n - t.fee
    quoteOf p t =
      { cls := p.cls, full := full, half := half, charge := c, residue := a, proRata := v, afterFraction := n, afterFee := g
        refund := if p.overUse = true then 0 else t.quantum * (g / t.quantum)
        overUse := p.overUse, generation := p.generation }

/-- R147: every quoted refund is a whole multiple of the class's quantum, at most P, and 0 while the over-use flag is set,
each stage keeping within the one before; a refund that one event stores is the quote of the record and class as held, and
a stored one stays as it was settled through every event, a SET TARIFF and a MERGE USE among them. -/
def Obligations.RefundIsBoundedAndFinal : Prop :=
  (∀ (p : Pass) (t : Tariff), 1 ≤ t.quantum → t.fraction ≤ 10000 →
    let q := quoteOf p t
    t.quantum ∣ q.refund ∧ q.refund ≤ p.paid ∧ (p.overUse = true → q.refund = 0) ∧ q.proRata ≤ p.paid ∧
    q.afterFraction ≤ min q.residue q.proRata ∧ q.afterFee ≤ q.afterFraction ∧ q.refund ≤ q.afterFee) ∧
  (∀ (c : Instr) (s t : State) (p q : Pass), PoolLaw s → RecordsLaw s → exec c s = .next t → p ∈ s.passes →
    q ∈ t.passes → q.number = p.number →
    (p.state = .surrendered → q.state = .surrendered ∧ q.settlement = p.settlement) ∧
    (p.state ≠ .surrendered → ∀ x ∈ q.settlement, x.refund = (quoteOf p (s.tariffOf p.cls)).refund))

/-- R141, R142, R148 to R150, R152: a SURRENDERED pass is answered SETTLED with its stored figures, one whose credit is queued
CREDIT PENDING with lane and number; a taken quote changes nothing; a settlement whose generation differs is STALE, one
before any OPEN DAY is NO DAY; a taken one surrenders the pass, writes the settlement part, raises the generation and
appends its record. -/
def Obligations.QuoteThenSettle : Prop :=
  ∀ (tag n generation : Nat) (s : State) (p : Pass), Takes s officeLink → 1 ≤ n → n ≤ 4294967294 →
    s.findPass n = some p →
    let quoted (a : Answer) : Prop := exec (.quoteRefund officeLink tag n) s = .next (s.answered officeLink 23 tag a)
    let run := exec (.settleRefund officeLink tag n generation) s
    (∀ x, p.state = .surrendered → p.settlement = some x →
      quoted (.settledDetail x.refund x.settleDay) ∧
      run = .next (s.answered officeLink 24 tag (.settledDetail x.refund x.settleDay))) ∧
    (∀ i place c, p.state ≠ .surrendered → s.creditOf n = some (i, place, c) →
      quoted (.creditPending i c.number) ∧ run = .next (s.answered officeLink 24 tag (.creditPending i c.number))) ∧
    (∀ k : Fin 8, p.cls = k.val → p.state ≠ .surrendered → (∀ c ∈ s.credits, c.pass ≠ n) →
      let q := quoteOf p (s.tariffs.get k)
      quoted (.quote q) ∧
      (generation ≠ p.generation → run = .next (s.answered officeLink 24 tag (.stale p.generation))) ∧
      (generation = p.generation → s.lastOpened = 0 → run = .next (s.answered officeLink 24 tag .noDay)) ∧
      (generation = p.generation → s.lastOpened ≠ 0 →
        run = .next (State.reply (State.append { s.taken officeLink with
          passes := s.passes.map fun x =>
            if x.number = n then
              { x with
                state := .surrendered
                generation := (x.generation + 1) % 65536
                settlement := some { refund := q.refund, settleDay := s.lastOpened, full := q.full, half := q.half
                                     generation := generation } }
            else x } (.settlement n q.refund q.full q.half generation)) officeLink 24 tag
          (.settledNow q s.lastOpened generation ((p.generation + 1) % 65536)))))

/-! ## Tariffs, clock and day -/

/-- R38, R39: SET TARIFF names the first field out of range, class number first, is refused DAY OPEN while the day is not
CLOSED, and else replaces the class record whole; READ TARIFF returns the record held, in every day state, and changes
nothing; after a taken SET TARIFF the record held is the new one. That a class number out of range is named first, and by a
name of its own, is the model's choice (log 15): it is no field of R37's table. -/
def Obligations.SetTariffThenReadTariff : Prop :=
  ∀ (tag cls : Nat) (t : Tariff) (s : State), Takes s officeLink →
    let run := exec (.setTariff officeLink tag cls t) s
    let refused (f : TariffField) : Prop := run = .next (s.answered officeLink 25 tag (.tariffOutOfRange f))
    (7 < cls → refused .classNumber) ∧
    (cls ≤ 7 →
      (65535 < t.rate → refused .rate) ∧
      (t.rate ≤ 65535 → 1440 < t.halfMinute → refused .halfMinute) ∧
      (t.rate ≤ 65535 → t.halfMinute ≤ 1440 → 10000 < t.fraction → refused .fraction) ∧
      (t.rate ≤ 65535 → t.halfMinute ≤ 1440 → t.fraction ≤ 10000 → 65535 < t.fee → refused .fee) ∧
      (t.rate ≤ 65535 → t.halfMinute ≤ 1440 → t.fraction ≤ 10000 → t.fee ≤ 65535 → t.quantum = 0 ∨ 1000 < t.quantum →
        refused .quantum) ∧
      (t.rate ≤ 65535 → t.halfMinute ≤ 1440 → t.fraction ≤ 10000 → t.fee ≤ 65535 → 1 ≤ t.quantum → t.quantum ≤ 1000 →
        (60 < t.hold → refused .hold) ∧
        (t.hold ≤ 60 → s.day ≠ .closed → run = .next (s.answered officeLink 25 tag (.dayOpen none))) ∧
        (t.hold ≤ 60 → s.day = .closed → ∀ k : Fin 8, k.val = cls →
          run = .next (State.reply { s.taken officeLink with tariffs := s.tariffs.set k t } officeLink 25 tag (.tariff t)) ∧
          ∀ j, (s.tariffs.set k t).get j = if j = k then t else s.tariffs.get j))) ∧
    (∀ k : Fin 8, k.val = cls →
      exec (.readTariff officeLink tag cls) s = .next (s.answered officeLink 26 tag (.tariff (s.tariffs.get k)))) ∧
    (7 < cls → exec (.readTariff officeLink tag cls) s = .next (s.answered officeLink 26 tag .outOfRange))

/-- R41, R42: SET CLOCK of a value in range, in CLOSED, makes the time of day that value and sets the flag; the clock time
and all else stay. -/
def Obligations.SetClockMakesTheTimeOfDay : Prop :=
  ∀ (tag time : Nat) (s : State), Takes s officeLink →
    (86400000 ≤ time → exec (.setClock officeLink tag time) s = .next (s.answered officeLink 27 tag .outOfRange)) ∧
    (time < 86400000 → s.day ≠ .closed →
      exec (.setClock officeLink tag time) s = .next (s.answered officeLink 27 tag (.dayOpen none))) ∧
    (time < 86400000 → s.day = .closed →
      ∃ offset, offset < 86400000 ∧ (s.clock + offset) % 86400000 = time ∧
        exec (.setClock officeLink tag time) s =
          .next (State.reply { s.taken officeLink with offset := offset, clockSet := true } officeLink 27 tag (.clock time)))

/-- R45, R46: OPEN DAY makes its checks in order; a new day zeroes lane counts, lift counts and passback holds, a reopen
keeps them; both open the day, append DAY OPENED and raise DAY STATE. -/
def Obligations.OpenDayOpensOrReopens : Prop :=
  ∀ (tag n : Nat) (s : State), Takes s officeLink → n ≤ 65535 →
    let run := exec (.openDay officeLink tag n) s
    let opened (t : State) (reopen : Bool) : Prop :=
      run = .next (State.reply
        ((State.append { t with day := .opened, lastOpened := n } (.dayOpened n reopen)).raise (.lift .dayState))
        officeLink 28 tag (.dayOpened n reopen ((s.clock + s.offset) % 86400000)))
    (n = 0 → run = .next (s.answered officeLink 28 tag .outOfRange)) ∧
    (n ≠ 0 → s.day ≠ .closed → run = .next (s.answered officeLink 28 tag (.dayOpen (some s.lastOpened)))) ∧
    (n ≠ 0 → s.day = .closed →
      (s.clockSet = false → run = .next (s.answered officeLink 28 tag .clockNotSet)) ∧
      (s.clockSet = true → n < s.lastOpened → run = .next (s.answered officeLink 28 tag (.dayBehind s.lastOpened))) ∧
      (s.clockSet = true → n = s.lastOpened → opened (s.taken officeLink) true) ∧
      (s.clockSet = true → s.lastOpened < n →
        opened { s.taken officeLink with
          lanes := s.lanes.map fun u => { u with counts := LaneCounts.zero }
          pacer := { s.pacer with counts := LiftCounts.zero }
          passes := s.passes.map fun p => { p with holdEnd := none } } false))

/-- R28, R47 to R50, R103, R116: CLOSE DAY answers CLOSED and CLOSING without a change; in OPEN it ends every HOLDING and
RELEASED credit, and no other, WITHDRAWN with cause DAY CLOSING, lane 0 first and the head first: each counted, its TENTATIVE
entry taken back with a rise of the generation, its CREDIT ENDED record appended and its event raised. It leaves the day CLOSED
when no credit is left, with the DAY CLOSED record and DAY STATE event, and CLOSING else. -/
def Obligations.CloseDayEndsAdmission : Prop :=
  ∀ (tag : Nat) (s : State), Takes s officeLink →
    let ends (i : LaneNo) : List Credit := (s.lane i).queue.filter Credit.notUnlocked
    let records : List JournalBody := ([0, 1, 2, 3, 4, 5] : List LaneNo).flatMap fun i => (ends i).map fun c =>
      .creditEnded i c.pass c.number (.withdrawn .dayClosing) (decide (c.firstUse ≠ none))
    (s.day = .closed → exec (.closeDay officeLink tag) s = .next (s.answered officeLink 29 tag .alreadyClosed)) ∧
    (s.day = .closing →
      exec (.closeDay officeLink tag) s = .next (s.answered officeLink 29 tag (.alreadyClosing s.credits.length))) ∧
    (s.day = .opened →
      ∃ t : State, exec (.closeDay officeLink tag) s =
          .next (t.reply officeLink 29 tag (.dayClosing t.day (s.credits.countP Credit.notUnlocked))) ∧
        (∀ i, (t.lane i).queue = (s.lane i).queue.filter fun c => !c.notUnlocked) ∧
        (∀ i, ends i = [] → t.lane i = s.lane i) ∧
        (∀ i, ends i ≠ [] →
          (t.lane i).counts = { (s.lane i).counts with
            withdrawn := min ((s.lane i).counts.withdrawn + (ends i).length) 4294967295 } ∧
          (t.lane i).lastEnded = (ends i).getLast?.map (fun c => (c.number, .withdrawn .dayClosing)) ∧
          ((s.lane i).gate.inService = true → (t.lane i).gate = gateOfQueue (t.lane i).queue)) ∧
        t.passes = s.passes.map (fun p =>
          let linked := s.credits.countP fun c => decide (c.pass = p.number ∧ c.firstUse ≠ none) && c.notUnlocked
          if linked = 0 then p
          else { p with
            uses := p.uses.filter fun x => decide (x.status = .final)
            generation := (p.generation + linked) % 65536 }) ∧
        (let logged := records.foldl State.append s
          if t.credits = [] then
            t.journal = (State.append { logged with day := .closed } (.dayClosed s.lastOpened
              (t.sumCounts LaneCounts.passages) (t.sumCounts fun x => x.tailgates + x.forced))).journal
          else t.journal = logged.journal) ∧
        (∀ l q, q ∈ (t.link l).pairs ↔
          q ∈ (s.link l).pairs ∨ (∃ i, ends i ≠ [] ∧ q = .atLane .creditEnded i ∧ inScope q l = true) ∨
            (t.credits = [] ∧ q = .lift .dayState)) ∧
        t.day = (if t.credits = [] then .closed else .closing) ∧
        t.lastOpened = s.lastOpened ∧ t.clock = s.clock ∧ t.pacer = s.pacer ∧ t.tariffs = s.tariffs ∧ t.free = s.free)

/-! ## Reading requests -/

/-- R63: the credit reference of a pass is the lane, place and record of a credit of that pass in a queue, and is absent
exactly when no queue holds one. -/
def Obligations.CreditReferenceFindsTheCredit : Prop :=
  ∀ (s : State) (n : Nat),
    (s.creditOf n = none ↔ ∀ c ∈ s.credits, c.pass ≠ n) ∧
    (∀ i place c, s.creditOf n = some (i, place, c) → (s.lane i).queue[place]? = some c ∧ c.pass = n)

/-- R18, R51, R99, R122, R140, R178, R184: the requests that read answer what is held and change nothing but the link; a
selector of READ COUNTS that is neither a lane nor ALL is OUT OF RANGE. -/
def Obligations.ReadsReportWhatIsHeld : Prop :=
  ∀ (tag : Nat) (s : State),
    (Takes s officeLink →
      (∀ n p, 1 ≤ n → n ≤ 4294967294 → s.findPass n = some p →
        exec (.readPass officeLink tag n) s = .next (s.answered officeLink 21 tag
          (.pass { pass := p, remaining := p.days - p.uses.length, holdLeft := p.holdEnd.map fun h => h - s.clock
                   credit := (s.creditOf n).map fun x => (x.1, x.2.2.number, x.2.2.state) }))) ∧
      exec (.readDay officeLink tag) s = .next (s.answered officeLink 30 tag
        (.day s.day (if s.day = .closed then 0 else s.lastOpened) s.lastOpened s.clockSet
          ((s.clock + s.offset) % 86400000) ((s.clock + s.offset) % 86400000 / 60000) s.clock
          (if s.day = .closing then s.credits.length else 0))) ∧
      exec (.readStart officeLink tag) s = .next (s.answered officeLink 31 tag (.start s.startRecord))) ∧
    (Takes s consoleLink →
      exec (.readLift consoleLink tag) s = .next (s.answered consoleLink 51 tag
        (.pacer s.pacer
          (if s.pacer.history = [] then s.pacer.settings.nominal else s.pacer.history.sum / s.pacer.history.length))) ∧
      ∀ i : LaneNo,
        exec (.readLane consoleLink tag i.val) s = .next (s.answered consoleLink 56 tag
          (.lane { gate := (s.lane i).gate, tracker := (s.lane i).tracker, rotation := (s.lane i).rotation
                   beam := (s.lane i).beam, lastSample := (s.lane i).lastSample, unlockOut := (s.lane i).unlockOut
                   queue := (s.lane i).queue, fault := (s.lane i).fault, link := (s.lane i).link
                   config := (s.lane i).config, nextCredit := (s.lane i).nextCredit }))) ∧
    (∀ l : LinkNo, l.val < 6 → Takes s l → exec (.hello l tag) s = .next (s.answered l 3 tag (.hello l .lane))) ∧
    (∀ l : LinkNo, 6 ≤ l.val → Takes s l →
      let answer (lanes : List LaneNo) : Answer :=
        .counts s.day s.lastOpened
          (lanes.map fun i => { counts := (s.lane i).counts, queued := (s.lane i).queue.length })
          s.pacer.counts (if l = officeLink then some (s.passes.length, s.free) else none)
      (∀ i : LaneNo, exec (.readCounts l tag i.val) s = .next (s.answered l 7 tag (answer [i]))) ∧
      exec (.readCounts l tag 255) s = .next (s.answered l 7 tag (answer [0, 1, 2, 3, 4, 5])) ∧
      (∀ k, 6 ≤ k → k ≠ 255 → exec (.readCounts l tag k) s = .next (s.answered l 7 tag .outOfRange)))

/-- R161: READ JOURNAL places its start against the held run: from a held record onward, none at the next sequence number,
from the oldest with the gap mark elsewhere; a count above 16 is OUT OF RANGE. That the next sequence number has no gap mark
after a cold start either is log 32's choice between R161's table and the last sentence of R185. -/
def Obligations.ReadJournalPlacesTheStart : Prop :=
  ∀ (l : LinkNo) (tag start count : Nat) (s : State), 6 ≤ l.val → Takes s l → start < 4294967296 → JournalLaw s →
    let run := exec (.readJournal l tag start count) s
    (16 < count → run = .next (s.answered l 8 tag .outOfRange)) ∧
    (count ≤ 16 → ∀ oldest, s.journal.head? = some oldest →
      (∀ k r, s.journal[k]? = some r → r.seq = start →
        run = .next (s.answered l 8 tag
          (.journal oldest.seq s.nextSeq false ((s.journal.drop k).take count)))) ∧
      (start = s.nextSeq → run = .next (s.answered l 8 tag (.journal oldest.seq s.nextSeq false []))) ∧
      (start ≠ s.nextSeq → (∀ r ∈ s.journal, r.seq ≠ start) →
        run = .next (s.answered l 8 tag (.journal oldest.seq s.nextSeq true (s.journal.take count)))))

/-! ## Event Status -/

/-- R163, R165, R167: READ EVENTS hands over the link's pending set with the levels held and empties it; SET MASK stores a
mask up to 7; SET LEVELS replaces the table, or names the first kind whose level is above 7; each decides the lines it
concerns afresh, and touches nothing else. -/
def Obligations.EventStatusRequests : Prop :=
  ∀ (l : LinkNo) (tag : Nat) (s : State), Takes s l →
    exec (.readEvents l tag) s =
      .next (State.reply ((s.taken l).modLink l fun e => { e with pairs := [], attention := false }) l 4 tag
        (.events (s.link l).mask ((s.link l).pairs.map fun p => (p, levelOf s.levels p)))) ∧
    (∀ m, 7 < m → exec (.setMask l tag m) s = .next (s.answered l 5 tag .outOfRange)) ∧
    (∀ m, m ≤ 7 →
      let line := (s.link l).pairs.any fun p => decide (m < levelOf s.levels p)
      exec (.setMask l tag m) s =
        .next (State.reply ((s.taken l).modLink l fun e => { e with mask := m, attention := line }) l 5 tag
          (.mask m line))) ∧
    (∀ v : Levels, 6 ≤ l.val →
      let all := [v.passage, v.backout, v.creditEnded, v.laneReady, v.untaggedRider, v.beamBlocked, v.linkSilent,
        v.laneFault, v.carrierRegained, v.dayState, v.carrierLost]
      (∀ k n, all[k]? = some n → 7 < n → (∀ j m, j < k → all[j]? = some m → m ≤ 7) →
        exec (.setLevels l tag v) s = .next (s.answered l 6 tag (.levelOutOfRange k))) ∧
      ((∀ n ∈ all, n ≤ 7) →
        exec (.setLevels l tag v) s =
          .next (State.reply { s.taken l with
            levels := v
            links := (s.taken l).links.map fun e =>
              { e with attention := e.pairs.any fun p => decide (e.mask < levelOf v p) } } l 6 tag (.levels v))))

/-! ## Admission -/

/-- R55 to R65: a PRESENT makes its checks in order; the first that fails gives the answer, a deny is counted at the
lane under its reason, each of the ten in a count of its own that saturates, and nothing else changes. -/
def Obligations.PresentIsTurnedAwayByTheFirstCheck : Prop :=
  (∀ d : DenyCounts,
    d.add .dayClosed = { d with dayClosed := min (d.dayClosed + 1) 4294967295 } ∧
    d.add .unknownPass = { d with unknownPass := min (d.unknownPass + 1) 4294967295 } ∧
    d.add .checkMismatch = { d with checkMismatch := min (d.checkMismatch + 1) 4294967295 } ∧
    d.add .blocked = { d with blocked := min (d.blocked + 1) 4294967295 } ∧
    d.add .surrendered = { d with surrendered := min (d.surrendered + 1) 4294967295 } ∧
    d.add .notYetValid = { d with notYetValid := min (d.notYetValid + 1) 4294967295 } ∧
    d.add .expired = { d with expired := min (d.expired + 1) 4294967295 } ∧
    d.add .inUse = { d with inUse := min (d.inUse + 1) 4294967295 } ∧
    d.add .passback = { d with passback := min (d.passback + 1) 4294967295 } ∧
    d.add .daysExhausted = { d with daysExhausted := min (d.daysExhausted + 1) 4294967295 }) ∧
  ∀ (i : LaneNo) (tag n check : Nat) (s : State), Takes s (linkOfLane i) →
    let u := s.lane i
    let run := exec (.present (linkOfLane i) tag n check) s
    let denied (reason : DenyReason) (detail : Nat) : Prop :=
      run = .next (State.reply ((s.taken (linkOfLane i)).modLane i fun u =>
        { u with counts := { u.counts with denies := u.counts.denies.add reason } }) (linkOfLane i) 1 tag
        (.deny reason detail))
    (u.gate.inService = false → run = .next (s.answered (linkOfLane i) 1 tag (.notInService u.gate))) ∧
    (u.gate.inService = true →
      (s.day = .closed → denied .dayClosed 0) ∧
      (s.day = .closing → denied .dayClosed 2) ∧
      (s.day = .opened → ∀ c cs, u.queue = c :: cs → cs ≠ [] →
        run = .next (s.answered (linkOfLane i) 1 tag (.queueFull c.number))) ∧
      (s.day = .opened → u.queue.length < 2 →
        (s.findPass n = none → denied .unknownPass 0) ∧
        (∀ p, s.findPass n = some p →
          (check ≠ p.check → denied .checkMismatch 0) ∧
          (check = p.check →
            (p.state = .blocked → denied .blocked 0) ∧
            (p.state = .surrendered → denied .surrendered 0) ∧
            (p.state = .active →
              (s.lastOpened < p.firstDay → denied .notYetValid p.firstDay) ∧
              (p.firstDay ≤ s.lastOpened → p.lastDay < s.lastOpened → denied .expired p.lastDay) ∧
              (p.firstDay ≤ s.lastOpened → s.lastOpened ≤ p.lastDay →
                (∀ j place c, s.creditOf n = some (j, place, c) → denied .inUse j.val) ∧
                ((∀ c ∈ s.credits, c.pass ≠ n) →
                  (∀ h, p.holdEnd = some h → s.clock < h → denied .passback ((h - s.clock + 999) / 1000)) ∧
                  ((∀ h, p.holdEnd = some h → h ≤ s.clock) → findUse s.lastOpened p.uses = none →
                    p.uses.length = p.days → denied .daysExhausted p.days))))))))

/-- R26, R43, R66 to R70: a PRESENT that passes every check creates the credit at the tail of the lane's queue; a day
not yet in the list gets one TENTATIVE entry of the kind of the minute of day, and the generation rises; a credit that
heads its queue is offered for release. That a STOPPED lift after a start does not keep the credit from being granted is the
model's choice between R55 and the last paragraph of R183 (log 33). -/
def Obligations.PresentGrantsACredit : Prop :=
  ∀ (i : LaneNo) (tag n : Nat) (s : State) (p : Pass), Takes s (linkOfLane i) → (s.lane i).gate.inService = true →
    s.day = .opened → (s.lane i).queue.length < 2 → s.findPass n = some p → p.state = .active →
    p.firstDay ≤ s.lastOpened → s.lastOpened ≤ p.lastDay → (∀ c ∈ s.credits, c.pass ≠ n) →
    (∀ h, p.holdEnd = some h → h ≤ s.clock) →
    (findUse s.lastOpened p.uses = none → p.uses.length ≠ p.days) →
    let u := s.lane i
    let kind : DayKind :=
      if (s.tariffOf p.cls).halfMinute ≤ (s.clock + s.offset) % 86400000 / 60000 then .half else .full
    let first : Option DayKind := if findUse s.lastOpened p.uses = none then some kind else none
    let credit : Credit :=
      { number := u.nextCredit, lane := i, pass := n, grantedAt := s.clock, firstUse := first, state := .holding
        releasedAt := none, slot := none, earliestUnlock := none, unlockStart := none, unlockEnd := none
        lifeEnd := some (s.clock + u.config.creditLife * 1000) }
    let t : State := State.modLane { s.taken (linkOfLane i) with
        passes := s.passes.map fun q =>
          if q.number = n ∧ first ≠ none then
            { q with
              uses := insertUse { day := s.lastOpened, kind := kind, origin := .localAt i, status := .tentative } q.uses
              generation := (q.generation + 1) % 65536 }
          else q } i fun v =>
      { v with
        nextCredit := if v.nextCredit = 65535 then 1 else v.nextCredit + 1
        queue := v.queue ++ [credit]
        counts := { v.counts with grants := min (v.counts.grants + 1) 4294967295 }
        gate := gateOfQueue (v.queue ++ [credit]) }
    exec (.present (linkOfLane i) tag n p.check) s =
      .next (State.reply (if u.queue = [] then t.offer i else t) (linkOfLane i) 1 tag
        (.grant u.nextCredit first (p.days - p.uses.length - if first = none then 0 else 1)))

/-! ## Release and unlock -/

/-- R92, R135 to R137: an offer arbitrates in PACED mode and releases the lane's own head in FREE mode. Arbitration releases
the HOLDING head with the earliest grant, the lower lane on equal times, into a slot that is open, and goes on with what it
leaves; the unlock starts in the same event when the earliest unlock time has come and the rotor is at HOME. -/
def Obligations.OffersReleaseHeadCredits : Prop :=
  ∀ (s : State) (i : LaneNo),
    let u := s.lane i
    let released (c : Credit) (slot : Option Nat) (earliest : Nat) (rest : List Credit) : LaneUnit :=
      let now : Bool := earliest ≤ s.clock && u.tracker = .home
      let state : CreditState := if now then .unlocked else .released
      { u with
        gate := if u.gate.inService then gateOfCredit state else u.gate
        unlockOut := u.unlockOut || now
        queue :=
          { c with
            state := state, releasedAt := some s.clock, slot := slot, earliestUnlock := some earliest, lifeEnd := none
            unlockStart := if now then some s.clock else c.unlockStart
            unlockEnd := if now then some (s.clock + u.config.unlockWidth) else c.unlockEnd } :: rest }
    let takes (k : Slot) : Prop := s.pacer.slot = some k ∧ s.pacer.mode = .paced ∧ s.pacer.lift = .running ∧
      s.pacer.tracking = .tracking ∧ s.clock < k.cutoffEnd ∧ k.released < k.capacity
    (∀ c rest, u.queue = c :: rest → c.state = .holding →
      (s.pacer.mode = .paced → s.offer i = s.arbitrate) ∧
      (s.pacer.mode = .free → s.pacer.lift = .running → u.tracker = .home →
        s.offer i = s.setLane i (released c none s.clock rest)) ∧
      (s.pacer.mode = .free → s.pacer.lift = .stopped ∨ u.tracker ≠ .home → s.offer i = s) ∧
      (∀ k, takes k →
        (∀ j d, (s.lane j).queue.head? = some d → d.state = .holding →
          c.grantedAt < d.grantedAt ∨ (c.grantedAt = d.grantedAt ∧ i.val ≤ j.val)) →
        s.arbitrate = State.arbitrate { s.setLane i (released c (some k.number) (max s.clock k.earliestUnlock) rest) with
          pacer := { s.pacer with
            slot := some { k with released := k.released + 1 }
            counts := { s.pacer.counts with seatsReleased := min (s.pacer.counts.seatsReleased + 1) 4294967295 } } })) ∧
    ((∀ c, u.queue.head? = some c → c.state ≠ .holding) → s.offer i = s) ∧
    ((∀ k, ¬ takes k) → s.arbitrate = s) ∧
    ((∀ j d, (s.lane j).queue.head? = some d → d.state ≠ .holding) → s.arbitrate = s)

/-! ## Requests on the lanes -/

/-- R75: a lane number above 5 is OUT OF RANGE and changes nothing; LANE STATUS names no lane and reports that of its link;
each of these requests is answered REFUSED ROLE on a link of another role. -/
def Obligations.LaneRequestsNameALane : Prop :=
  ∀ (l : LinkNo) (tag n : Nat) (config : LaneConfig) (s : State), Takes s l →
    let answer (code : Nat) (a : Answer) : Machine.Result := .next (s.answered l code tag a)
    (∀ a, (l = consoleLink ∧ 5 < n ∧ a = .outOfRange) ∨ (l ≠ consoleLink ∧ a = .refusedRole) →
      exec (.openLane l tag n) s = answer 52 a ∧ exec (.closeLane l tag n) s = answer 53 a ∧
      exec (.clearLane l tag n) s = answer 54 a ∧ exec (.configureLane l tag n config) s = answer 55 a ∧
      exec (.readLane l tag n) s = answer 56 a) ∧
    (6 ≤ l.val → exec (.laneStatus l tag) s = answer 2 .refusedRole) ∧
    (∀ i, l = linkOfLane i →
      exec (.laneStatus l tag) s = answer 2 (.laneStatus (s.lane i).gate
        ((s.lane i).queue.head?.map fun c => (c.number, c.state)) (s.lane i).lastEnded))

/-- R81, R83, R84, R101: OPEN LANE and CLOSE LANE in every gate state. CLOSE LANE in service withdraws every credit that is
not PASSING, and leaves the lane CLOSING, or OFF when no credit is left and the rotor is at HOME; where the leave of an
UNLOCKED head is the next command waiting, the lane stays CLOSING (log 30, DEDUCED) and that leave is FORCED. -/
def Obligations.OpenAndCloseLane : Prop :=
  ∀ (tag : Nat) (i : LaneNo) (s : State), Takes s consoleLink →
    let t := s.taken consoleLink
    let u := s.lane i
    let opens (v : State) (a : Answer) : Prop := exec (.openLane consoleLink tag i.val) s = .next (v.reply consoleLink 52 tag a)
    let closes (v : State) (a : Answer) : Prop := exec (.closeLane consoleLink tag i.val) s = .next (v.reply consoleLink 53 tag a)
    let off (v : LaneUnit) : LaneUnit := { v with
      gate := .off, sensorPower := false, unlockOut := false, tracker := .notRead, rotation := none, beam := none
      lastSample := none, firstSample := true, settleEnd := none, passageFrom := none, blockedFrom := none
      silenceEnd := none }
    (u.gate = .off →
      opens (t.setLane i { u with
        gate := .settling, sensorPower := true, unlockOut := false, tracker := .notRead, rotation := none, beam := none
        firstSample := true, settleEnd := some (s.clock + u.config.settleTime), passageFrom := none, blockedFrom := none
        silenceEnd := some (s.clock + u.config.silenceLimit * 1000) }) (.laneOpened .settling none) ∧
      closes t (.laneClosed .off none)) ∧
    (u.gate = .settling → opens t (.laneOpened .settling none) ∧ closes (t.setLane i (off u)) (.laneClosed .off none)) ∧
    (u.gate = .fault → opens t (.laneOpened .fault u.fault) ∧ closes (t.setLane i (off u)) (.laneClosed .off none)) ∧
    (u.gate = .closing →
      opens (State.raise (t.setLane i { u with gate := gateOfQueue u.queue }) (.atLane .laneReady i))
        (.laneOpened .ready none) ∧
      closes t (.laneClosed .closing (some u.queue.length))) ∧
    (u.gate.inService = true →
      opens t (.laneOpened .ready none) ∧
      let w := t.withdraw i .laneClosed fun c => decide (c.state ≠ .passing)
      let left := u.queue.filter fun c => decide (c.state = .passing)
      (w.lane i).queue = left ∧ (w.lane i).tracker = u.tracker ∧ (∀ j, j ≠ i → w.lane j = s.lane j) ∧
      let leaves : Bool := u.gate = .unlocked && s.pending.head? = some (.rotorLeave i)
      let goesOff : Bool := left = [] && u.tracker = .home && !leaves
      closes (w.modLane i fun v => if goesOff then off v else { v with gate := .closing })
        (.laneClosed (if goesOff then .off else .closing)
          (some (u.queue.countP fun c => decide (c.state ≠ .passing)))) ∧
      (leaves = true → u.tracker = .home → ∃ after away, exec (.closeLane consoleLink tag i.val) s = .next after ∧
        exec (.rotorLeave i) after = .next away ∧ (away.lane i).gate = .closing ∧ (away.lane i).tracker = .awayFirst ∧
        (away.lane i).rotation.map Rotation.kind = some .forced))

/-- R77, R78, R82, R96: CLEAR LANE takes a lane out of FAULT into SETTLING and else reports the gate state; CONFIGURE LANE
stores every setting clamped in OFF, FAULT, SETTLING and READY, restarts the settle timer in the last two, and is refused
LANE BUSY elsewhere. -/
def Obligations.ClearAndConfigureLane : Prop :=
  ∀ (tag : Nat) (i : LaneNo) (c : LaneConfig) (s : State), Takes s consoleLink →
    let t := s.taken consoleLink
    let u := s.lane i
    let settling (v : LaneUnit) : LaneUnit := { v with
      gate := .settling, sensorPower := true, unlockOut := false, tracker := .notRead, rotation := none, beam := none
      firstSample := true, settleEnd := some (s.clock + v.config.settleTime), passageFrom := none, blockedFrom := none }
    let broken := min c.brokenLevel 4095
    let clear := max (broken + 1) (min c.clearLevel 4096)
    let stored : LaneConfig :=
      { settleTime := max 10 (min c.settleTime 2000), unlockWidth := max 1000 (min c.unlockWidth 10000)
        creditLife := max 5 (min c.creditLife 120), silenceLimit := max 1 (min c.silenceLimit 30)
        passageLimit := max 2 (min c.passageLimit 60), brokenLevel := broken, clearLevel := clear
        faultLevel := max (clear + 1) (min c.faultLevel 4097), blockedLimit := max 1 (min c.blockedLimit 60) }
    let kept : LaneUnit := { u with
      config := stored
      silenceEnd := if u.silenceEnd = none then none else some (s.clock + stored.silenceLimit * 1000) }
    let configured (v : LaneUnit) (g : GateState) : Prop :=
      exec (.configureLane consoleLink tag i.val c) s =
        .next (State.reply (t.setLane i v) consoleLink 55 tag (.configured stored g))
    (u.gate = .fault →
      exec (.clearLane consoleLink tag i.val) s =
        .next (State.reply (t.setLane i (settling u)) consoleLink 54 tag (.laneCleared .settling))) ∧
    (u.gate ≠ .fault →
      exec (.clearLane consoleLink tag i.val) s = .next (s.answered consoleLink 54 tag (.laneCleared u.gate))) ∧
    (u.gate = .off ∨ u.gate = .fault → configured kept u.gate) ∧
    (u.gate = .settling ∨ u.gate = .ready → configured (settling kept) .settling) ∧
    (u.gate = .holding ∨ u.gate = .released ∨ u.gate = .unlocked ∨ u.gate = .passing ∨ u.gate = .closing →
      exec (.configureLane consoleLink tag i.val c) s =
        .next (s.answered consoleLink 55 tag (.laneBusy u.queue.length)))

/-! ## The Carrier Pacer -/

/-- R125 to R128, R133: SET LIFT, SET SEATS and SET PACING. A stop returns RELEASED credits to HOLDING with a full credit
life; a start of the lift arbitrates in PACED mode and releases in FREE mode, as a change to FREE mode does. -/
def Obligations.LiftSeatsAndPacingAreSet : Prop :=
  ∀ (tag n : Nat) (v : PacingSettings) (s : State), Takes s consoleLink →
    let t := s.taken consoleLink
    let p := s.pacer
    let lifted (w : State) (a : Answer) : Prop :=
      exec (.setLift consoleLink tag n) s = .next (w.reply consoleLink 48 tag a)
    let paced (w : State) (m : PacingMode) (q : PacingSettings) : Prop :=
      exec (.setPacing consoleLink tag n v) s = .next (w.reply consoleLink 50 tag (.pacing m q))
    let waiting (w : State) : Nat := w.credits.countP fun c => decide (c.state = .holding)
    let freed (w : State) : State := ([0, 1, 2, 3, 4, 5] : List LaneNo).foldl State.freeRelease w
    let seats := max 1 (min n 8)
    let low := max 2000 (min v.intervalMin 60000)
    let high := max (low + 1) (min v.intervalMax 120000)
    let q : PacingSettings :=
      { intervalMin := low, intervalMax := high, nominal := max low (min v.nominal high)
        cutoffPercent := max 10 (min v.cutoffPercent 100), leadOffset := min v.leadOffset 60000 }
    (2 ≤ n →
      exec (.setLift consoleLink tag n) s = .next (s.answered consoleLink 48 tag .outOfRange) ∧
      exec (.setPacing consoleLink tag n v) s = .next (s.answered consoleLink 50 tag .outOfRange)) ∧
    (n = 0 → p.lift = .running → lifted t (.lift .running none)) ∧
    (n = 1 → p.lift = .stopped → lifted t (.lift .stopped none)) ∧
    (n = 0 → p.lift = .stopped →
      (p.mode = .paced →
        let w := State.arbitrate { t with pacer := { p with
          lift := .running
          watchRunning := p.watchRunning || decide (p.tracking = .tracking)
          watchFrom := if p.tracking = .tracking then s.clock else p.watchFrom } }
        lifted w (.lift .running (some (waiting s - waiting w)))) ∧
      (p.mode = .free →
        let w := freed { t with pacer := { p with lift := .running } }
        lifted w (.lift .running (some (waiting s - waiting w))))) ∧
    (n = 1 → p.lift = .running →
      lifted { t with
        pacer := { p with lift := .stopped, watchRunning := false }
        lanes := s.lanes.map fun u =>
          let queue := u.queue.map fun c =>
            if c.state = .released then
              { c with
                state := .holding, releasedAt := none, slot := none, earliestUnlock := none
                lifeEnd := some (s.clock + u.config.creditLife * 1000) }
            else c
          { u with queue := queue, gate := if u.gate.inService then gateOfQueue queue else u.gate } }
        (.lift .stopped (some (s.credits.countP fun c => decide (c.state = .released))))) ∧
    (p.mode = .paced →
      exec (.setSeats consoleLink tag n) s =
        .next (State.reply { t with pacer := { p with pendingSeats := seats } } consoleLink 49 tag
          (.seats seats p.activeSeats))) ∧
    (p.mode = .free →
      exec (.setSeats consoleLink tag n) s =
        .next (State.reply { t with pacer := { p with pendingSeats := seats, activeSeats := seats } } consoleLink 49 tag
          (.seats seats seats))) ∧
    (n = 0 → p.mode = .paced → paced { t with pacer := { p with settings := q, history := [] } } .paced q) ∧
    (n = 0 → p.mode = .free →
      paced { t with pacer := { p with
        mode := .paced, settings := q, history := [], tracking := .tracking, lastEdge := none, slot := none
        watchRunning := p.watchRunning || decide (p.lift = .running)
        watchFrom := if p.lift = .running then s.clock else p.watchFrom } } .paced q) ∧
    (n = 1 → p.mode = .free → paced { t with pacer := { p with settings := q, history := [] } } .free q) ∧
    (n = 1 → p.mode = .paced →
      paced (freed { t with pacer := { p with
        mode := .free, settings := q, history := [], slot := none, watchRunning := false
        activeSeats := p.pendingSeats } }) .free q)

/-- R129 to R134: in FREE mode an edge is not acted on, and while TRACKING one that follows the last accepted edge too soon
is a bounce; every other edge regains lost tracking, takes an interval in pace into the history, loads the pending seats,
opens a slot, restarts the lost watch while RUNNING, and arbitrates. A lost watch that runs expires above the interval max.
The clock's move to that time and a row of a watch that does not run are the model's choices (log 2), and so is the kept
reference from which a gap without a last edge is counted (log 23). -/
def Obligations.CarrierEdgesOpenSlots : Prop :=
  ∀ s : State, s.run = .running →
    let p := s.pacer
    let bounce : Prop := p.tracking = .tracking ∧ ∃ e, p.lastEdge = some e ∧ s.clock - e < p.settings.intervalMin
    let regained : State :=
      if p.tracking = .lost then
        State.raise (State.append { s with pacer := { p with tracking := .tracking } }
          (.carrierRegained (s.clock - p.lastEdge.getD p.watchFrom))) (.lift .carrierRegained)
      else s
    let history : List Nat :=
      match p.tracking, p.lastEdge with
      | .tracking, some e =>
        if s.clock - e ≤ p.settings.intervalMax then
          (if p.history.length < 4 then p.history else p.history.tail) ++ [s.clock - e]
        else p.history
      | .tracking, none => p.history
      | .lost, _ => p.history
    let estimate := if history = [] then p.settings.nominal else history.sum / history.length
    (p.mode = .free → exec .carrierEdge s = .next s) ∧
    (p.mode = .paced → bounce → exec .carrierEdge s = .next s) ∧
    (p.mode = .paced → ¬ bounce →
      exec .carrierEdge s = .next (State.arbitrate { regained with pacer := { p with
        tracking := .tracking
        history := history
        lastEdge := some s.clock
        activeSeats := p.pendingSeats
        watchRunning := p.watchRunning || decide (p.lift = .running)
        watchFrom := if p.lift = .running then s.clock else p.watchFrom
        lastSlot := (p.lastSlot + 1) % 4294967296
        slot := some
          { number := (p.lastSlot + 1) % 4294967296, openedAt := s.clock, capacity := p.pendingSeats, released := 0
            cutoffEnd := s.clock + estimate * p.settings.cutoffPercent / 100
            earliestUnlock := s.clock + p.settings.leadOffset }
        counts := { p.counts with
          slotsOpened := min (p.counts.slotsOpened + 1) 4294967295
          seatsOffered := min (p.counts.seatsOffered + p.pendingSeats) 4294967295 } } })) ∧
    (p.watchRunning = false → exec .lostWatchExpiry s = .next s) ∧
    (p.watchRunning = true →
      exec .lostWatchExpiry s = .next (State.raise (State.append { s with
        clock := max s.clock (p.watchFrom + p.settings.intervalMax + 1)
        pacer := { p with
          tracking := .lost, watchRunning := false
          counts := { p.counts with carrierLosses := min (p.counts.carrierLosses + 1) 4294967295 } } }
        .carrierLost) (.lift .carrierLost)))

/-! ## Lane events -/

/-- R85 to R87, R105: a leave at HOME opens a rotation record, CREDITED when the lane is UNLOCKED, whose head then is
PASSING; a MID in AWAY-FIRST is captured, and ends the PASSING head of a CREDITED rotation PASSED. A leave or a MID that R85
calls not possible changes nothing (log 8); the mark of a commit is the model's (log 10). -/
def Obligations.RotorLeavesAndReachesMid : Prop :=
  ∀ (i : LaneNo) (s : State), s.run = .running →
    let u := s.lane i
    let away (kind : RotationKind) : LaneUnit := { u with
      tracker := .awayFirst
      rotation := some { kind := kind, leaveAt := s.clock, midAt := none, beamEntries := if u.beam = some .broken then 1 else 0
                         endPassed := false, committed := false }
      passageFrom := some s.clock
      blockedFrom := none }
    let marked (commit : Bool) : State := s.setLane i { u with
      tracker := .awaySecond
      rotation := u.rotation.map fun r => { r with midAt := some s.clock, committed := commit } }
    (u.tracker ≠ .home → exec (.rotorLeave i) s = .next s) ∧
    (u.tracker = .home → u.gate ≠ .unlocked → exec (.rotorLeave i) s = .next (s.setLane i (away .forced))) ∧
    (u.tracker = .home → u.gate = .unlocked → ∀ c cs, u.queue = c :: cs →
      exec (.rotorLeave i) s = .next (s.setLane i { away (.credited c.number) with
        gate := .passing, queue := { c with state := .passing } :: cs })) ∧
    (u.tracker ≠ .awayFirst → exec (.mid i) s = .next s) ∧
    (u.tracker = .awayFirst →
      (∀ r c, u.rotation = some r → u.queue.head? = some c → r.kind = .credited c.number → c.state = .passing →
        exec (.mid i) s = .next ((marked true).endHead i .passed)) ∧
      ((∀ r c, u.rotation = some r → u.queue.head? = some c → r.kind = .credited c.number → c.state ≠ .passing) →
        exec (.mid i) s = .next (marked false)))

/-- R88, R91, R92, R109 to R112, R137: a return closes the rotation record and counts it: a BACKOUT from AWAY-FIRST; from
AWAY-SECOND FORCED unless it committed, and TAILGATE with two beam entries. A backout of the PASSING head withdraws it in a
CLOSING lane, ends it EXPIRED UNUSED past its unlock end, withdraws it on a SILENT link, and else returns it to UNLOCKED. A
drained CLOSING lane goes OFF. Then, `State.homeRelease`, a RELEASED head whose earliest unlock time has come starts its
unlock, a HOLDING head in FREE mode with the lift RUNNING is released and starts it at once, and any other head stays as it
is. A BROKEN beam is watched. A return that R85 calls not possible changes nothing (log 8), and that a MID committed is read from a mark of the
model's own (log 10). -/
def Obligations.ReturnsAreCounted : Prop :=
  (∀ (i : LaneNo) (t : State),
    let u := t.lane i
    let unlocked (c : Credit) (cs : List Credit) : State := t.setLane i { u with
      queue := { c with
        state := .unlocked, unlockStart := some t.clock, unlockEnd := some (t.clock + u.config.unlockWidth) } :: cs
      gate := if u.gate.inService then .unlocked else u.gate
      unlockOut := true }
    let due (c : Credit) : Prop := c.state = .released ∧ u.tracker = .home ∧ ∃ e, c.earliestUnlock = some e ∧ e ≤ t.clock
    let free (c : Credit) : Prop :=
      c.state = .holding ∧ u.tracker = .home ∧ t.pacer.mode = .free ∧ t.pacer.lift = .running
    (u.queue = [] → t.homeRelease i = t) ∧
    ∀ c cs, u.queue = c :: cs →
      (due c → t.homeRelease i = unlocked c cs) ∧
      (free c → t.homeRelease i =
        unlocked { c with
          releasedAt := some t.clock, slot := none, earliestUnlock := some t.clock, lifeEnd := none } cs) ∧
      (¬ due c → ¬ free c → t.homeRelease i = t)) ∧
  (∀ (i : LaneNo) (s : State), (s.lane i).tracker = .home ∨ (s.lane i).tracker = .notRead →
    exec (.returnToHome i) s = .next s) ∧
  ∀ (i : LaneNo) (s : State) (r : Rotation), s.run = .running → (s.lane i).rotation = some r →
    let u := s.lane i
    let home := s.setLane i { u with tracker := .home, rotation := none, passageFrom := none }
    let untagged (t : State) (cause : UntaggedCause) : State :=
      State.raise (State.append (t.modLane i fun v => { v with counts := { v.counts with
        tailgates := if cause = .tailgate then min (v.counts.tailgates + 1) 4294967295 else v.counts.tailgates
        forced := if cause = .forced then min (v.counts.forced + 1) 4294967295 else v.counts.forced } })
        (.untagged i cause)) (.atLane .untaggedRider i)
    let backout (pass : Option Nat) : State :=
      State.raise (State.append (home.modLane i fun v => { v with counts := { v.counts with
        backouts := min (v.counts.backouts + 1) 4294967295 } }) (.backout i pass)) (.atLane .backout i)
    let finish (t : State) : Machine.Result :=
      .next (State.modLane (State.homeRelease (t.modLane i LaneUnit.offIfDrained) i) i fun v =>
        if v.tracker = .home ∧ v.beam = some .broken then { v with blockedFrom := some s.clock } else v)
    let run := exec (.returnToHome i) s
    (u.tracker = .awaySecond →
      let forced := if r.committed then home else untagged home .forced
      run = finish (if 2 ≤ r.beamEntries then untagged forced .tailgate else forced)) ∧
    (u.tracker = .awayFirst → r.kind = .forced → run = finish (backout none)) ∧
    (u.tracker = .awayFirst → ∀ n, r.kind = .credited n → (∀ c ∈ u.queue, c.number ≠ n) → run = finish (backout none)) ∧
    (u.tracker = .awayFirst → ∀ c cs, u.queue = c :: cs → r.kind = .credited c.number → c.state = .passing →
      let counted := backout (some c.pass)
      (u.gate = .closing → run = finish (counted.endHead i (.withdrawn .laneClosed))) ∧
      (u.gate ≠ .closing → r.endPassed = true → run = finish (counted.endHead i .expiredUnused)) ∧
      (u.gate ≠ .closing → r.endPassed = false → u.link = .silent →
        run = finish (counted.endHead i (.withdrawn .laneSilent))) ∧
      (u.gate ≠ .closing → r.endPassed = false → u.link = .alive →
        run = finish (counted.modLane i fun v => { v with
          queue := { c with state := .unlocked } :: cs
          gate := if v.gate.inService then .unlocked else v.gate })))

/-- R90, R91, R94, R95: a sample taken while the classifier runs classifies the beam, adds a beam entry to an open record at
a change to BROKEN, starts the beam blocked timer with it at HOME, and stops it at CLEAR; one that reaches the fault level
from below, or first, is a cause (log 11), which puts the lane into FAULT, every credit withdrawn, or is counted in FAULT. No
sample is taken while the classifier does not run (log 12). The LANE FAULT record after the withdrawals, a DAY CLOSED among
them included, is log 14's order (DEDUCED). -/
def Obligations.BeamSamplesClassifyAndFault : Prop :=
  (∀ (i : LaneNo) (level : Nat) (s : State), s.run = .running →
    let u := s.lane i
    (u.beam = none → exec (.beamSample i level) s = .next s) ∧
    (∀ before, u.beam = some before →
      let after : Beam :=
        if level ≤ u.config.brokenLevel then .broken
        else if level < u.config.clearLevel then before
        else if level < u.config.faultLevel then .clear
        else before
      let entry : Prop := before = .clear ∧ after = .broken
      let t := s.setLane i { u with
        beam := some after
        lastSample := some { level := level, takenAt := s.clock }
        firstSample := false
        rotation := if entry then u.rotation.map fun r => { r with beamEntries := min (r.beamEntries + 1) 4294967295 } else u.rotation
        blockedFrom :=
          if entry ∧ u.tracker = .home then some s.clock else if after = .clear then none else u.blockedFrom }
      let fault : Prop := u.config.faultLevel ≤ level ∧
        (u.firstSample = true ∨ ∀ p, u.lastSample = some p → p.level < u.config.faultLevel)
      (¬ fault → exec (.beamSample i level) s = .next t) ∧
      (fault → exec (.beamSample i level) s = .next (t.detect i .beamFault)))) ∧
  (∀ (i : LaneNo) (cause : FaultCause) (s : State),
    ((s.lane i).gate ≠ .fault →
      s.detect i cause =
        State.raise (State.append
          (State.modLane ((s.modLane i fun u => { u with gate := .fault }).withdraw i .laneFault fun _ => true) i fun u =>
            { u with unlockOut := false, fault := some { first := cause, faultAt := s.clock, later := none, count := 1 } })
          (.laneFault i cause none)) (.atLane .laneFault i)) ∧
    ((s.lane i).gate = .fault → ∀ r, (s.lane i).fault = some r →
      s.detect i cause =
        State.raise (State.append
          (s.modLane i fun u => { u with fault := some { r with later := some cause, count := min (r.count + 1) 65535 } })
          (.laneFault i r.first (some cause))) (.atLane .laneFault i)))

/-- R82, R89, R91, R98: what the four timers of a lane do when they run out, the clock moved forward to that time; an expiry
of a timer that does not run changes nothing (log 2). The settle expiry carries the level of the HOME switch (log 9), and the
LINK SILENT record after the withdrawals, a DAY CLOSED among them included, is log 14's order (DEDUCED). -/
def Obligations.LaneTimersRunOut : Prop :=
  ∀ (i : LaneNo) (s : State), s.run = .running →
    let u := s.lane i
    let after (t : Nat) : State := { s with clock := max s.clock t }
    (u.settleEnd = none → ∀ b, exec (.settleExpiry i b) s = .next s) ∧
    (∀ t, u.settleEnd = some t →
      exec (.settleExpiry i true) s =
        .next (State.raise ((after t).setLane i { u with
          gate := .ready, settleEnd := none, tracker := .home, rotation := none, beam := some .clear, firstSample := true })
          (.atLane .laneReady i)) ∧
      (u.gate = .settling →
        exec (.settleExpiry i false) s =
          .next (State.detect ((after t).setLane i { u with
            settleEnd := none, tracker := .awayFirst, beam := some .clear, firstSample := true
            passageFrom := some (max s.clock t)
            rotation := some { kind := .forced, leaveAt := max s.clock t, midAt := none, beamEntries := 0
                               endPassed := false, committed := false } }) i .rotorNotHome))) ∧
    (u.passageFrom = none → exec (.passageLimitExpiry i) s = .next s) ∧
    (∀ t, u.passageFrom = some t →
      exec (.passageLimitExpiry i) s =
        .next (State.detect ((after (t + u.config.passageLimit * 1000 + 1)).setLane i { u with passageFrom := none }) i
          .rotorStuck)) ∧
    (u.silenceEnd = none → exec (.silenceExpiry i) s = .next s) ∧
    (∀ t, u.silenceEnd = some t →
      exec (.silenceExpiry i) s =
        .next (State.raise (State.append
          (((after t).setLane i { u with link := .silent, silenceEnd := none }).withdraw i .laneSilent
            fun c => decide (c.state ≠ .passing))
          (.linkSilent i (u.queue.countP fun c => decide (c.state ≠ .passing)))) (.atLane .linkSilent i))) ∧
    (u.blockedFrom = none → exec (.beamBlockedExpiry i) s = .next s) ∧
    (∀ t, u.blockedFrom = some t →
      exec (.beamBlockedExpiry i) s =
        .next (State.raise (State.append
          ((after (t + u.config.blockedLimit * 1000 + 1)).setLane i { u with blockedFrom := none })
          (.beamBlocked i)) (.atLane .beamBlocked i)))

/-- R92, R93, R113, R114: the credit-life timer ends a HOLDING credit EXPIRED UNRELEASED, wherever it stands; the earliest
unlock time starts the unlock of a RELEASED head with the rotor at HOME; the unlock end ends an UNLOCKED head EXPIRED
UNUSED and marks the rotation of a PASSING one. The clock moves forward to that time; an expiry of a timer that does not run
changes nothing (log 2). -/
def Obligations.CreditTimersRunOut : Prop :=
  ∀ (i : LaneNo) (s : State), s.run = .running →
    let u := s.lane i
    let after (t : Nat) : State := { s with clock := max s.clock t }
    (∀ n, (∀ c ∈ u.queue, c.number = n → c.state ≠ .holding) → exec (.creditLifeExpiry i n) s = .next s) ∧
    (∀ place c t, u.queue[place]? = some c → c.state = .holding → c.lifeEnd = some t →
      (∀ k d, k < place → u.queue[k]? = some d → d.number ≠ c.number) →
      exec (.creditLifeExpiry i c.number) s =
        .next (if place = 0 then (after t).endHead i .expiredUnreleased else (after t).endCredit i place .expiredUnreleased)) ∧
    (∀ c cs, u.queue = c :: cs →
      (∀ t, c.state = .released → c.earliestUnlock = some t → u.tracker = .home →
        exec (.unlockStart i) s = .next ((after t).setLane i { u with
          queue := { c with
            state := .unlocked, unlockStart := some (max s.clock t)
            unlockEnd := some (max s.clock t + u.config.unlockWidth) } :: cs
          gate := if u.gate.inService then .unlocked else u.gate
          unlockOut := true })) ∧
      (c.state ≠ .released ∨ u.tracker ≠ .home → exec (.unlockStart i) s = .next s) ∧
      (∀ t, c.state = .unlocked → c.unlockEnd = some t →
        exec (.unlockEnd i) s = .next ((after t).endHead i .expiredUnused)) ∧
      (∀ t, c.state = .passing → c.unlockEnd = some t →
        exec (.unlockEnd i) s = .next ((after t).setLane i { u with
          rotation := u.rotation.map fun r => { r with endPassed := true } })) ∧
      (c.state = .holding ∨ c.state = .released → exec (.unlockEnd i) s = .next s)) ∧
    (u.queue = [] → exec (.unlockStart i) s = .next s ∧ exec (.unlockEnd i) s = .next s)

/-! ## Starts -/

/-- R37, R76, R102, R125, R165, R178, R181 to R185: a cold start, at power-up with RETAIN_OK inactive or when CLEAR ALL's
answer has left the office link, leaves every item at its cold value and the Journal with its START record alone; after the
start at power-up the part is as after reset, with the model's values where the spec gives none (logs 3, 23 and 24). CLEAR ALL
is answered first, and the last byte of its answer is the byte last sent (R177). That this byte's event, and ANSWER_SENT for
all bytes, takes the start, and that the byte clocked in with it is lost, is log 19's and 20's reading; a CLEAR_ALL_START
finds that answer anywhere in the queue, and changes nothing without it (log 6). -/
def Obligations.ColdStartsEmptyTheMemory : Prop :=
  ∀ s : State,
    let cold (cause : StartCause) (before : Option DayState) (withdrawn removed : Nat) (sent : Byte) : State := {
      pending := s.pending, run := .running, passes := [], free := 131072
      tariffs := Eight.all { rate := 0, halfMinute := 1440, fraction := 10000, fee := 0, quantum := 1, hold := 5 }
      clock := 0, offset := 0, clockSet := false, day := .closed, lastOpened := 0
      lanes := Six.all {
        config :=
          { settleTime := 250, unlockWidth := 4000, creditLife := 30, silenceLimit := 5, passageLimit := 20
            brokenLevel := 1200, clearLevel := 2400, faultLevel := 4000, blockedLimit := 10 }
        gate := .off, queue := [], nextCredit := 1, tracker := .notRead, rotation := none, beam := none
        lastSample := none, firstSample := true, settleEnd := none, passageFrom := none, blockedFrom := none
        silenceEnd := none, link := .alive, unlockOut := false, sensorPower := false, fault := none, lastEnded := none
        counts :=
          { grants := 0, passages := 0, tailgates := 0, forced := 0, backouts := 0, expiredUnreleased := 0
            expiredUnused := 0, withdrawn := 0
            denies :=
              { dayClosed := 0, unknownPass := 0, checkMismatch := 0, blocked := 0, surrendered := 0, notYetValid := 0
                expired := 0, inUse := 0, passback := 0, daysExhausted := 0 } } }
      pacer :=
        { lift := .stopped, mode := .paced, activeSeats := 4, pendingSeats := 4, tracking := .tracking
          settings := { intervalMin := 4000, intervalMax := 20000, nominal := 8000, cutoffPercent := 60, leadOffset := 0 }
          lastEdge := none, history := [], watchRunning := false, watchFrom := 0, slot := none, lastSlot := 0
          counts := { slotsOpened := 0, seatsOffered := 0, seatsReleased := 0, carrierLosses := 0 } }
      journal := [{ seq := 1, stamp := none, body := .start .cold cause withdrawn removed }], nextSeq := 2
      levels :=
        { passage := 0, backout := 1, creditEnded := 2, laneReady := 2, untaggedRider := 3, beamBlocked := 4
          linkSilent := 5, laneFault := 6, carrierRegained := 3, dayState := 2, carrierLost := 6 }
      links := Eight.all
        { receiver := .idle, slot := none, output := [], driver := false, pairs := [], mask := 1, attention := false }
      office := { readPos := 0, fillerOpen := false, dataOut := sent }
      startRecord :=
        { kind := .cold, cause := cause, dayBefore := before, lastOpened := 0, withdrawn := withdrawn
          removed := removed, seq := 1 }
      freeCount := s.freeCount }
    let powered := cold .powerUp none 0 0 0#8
    let cleared (a : OutAnswer) : State :=
      cold .clearAll (some s.day) s.credits.length (s.passes.map fun p => tentatives p.uses).sum (a.bytes.getLastD 0#8)
    powered = { State.reset with pending := s.pending, freeCount := s.freeCount } ∧
    (s.run = .off false → exec (.powerUp false) s = .next powered) ∧
    (s.run = .heldPowerUp false → exec .resetReleased s = .next powered) ∧
    (∀ tag, Takes s officeLink →
      exec (.clearAll officeLink tag) s = .next (s.answered officeLink 32 tag .cleared)) ∧
    (s.run = .running →
      (∀ a, ((s.link officeLink).output.find? fun x => decide (x.answer = .cleared)) = some a →
        exec .clearAllStart s = .next (cleared a)) ∧
      ((∀ a ∈ (s.link officeLink).output, a.answer ≠ .cleared) → exec .clearAllStart s = .next s) ∧
      (∀ a, (s.link officeLink).output.head? = some a → a.answer = .cleared →
        exec (.answerSent officeLink) s = .next (cleared a) ∧
        (s.office.fillerOpen = false → a.bytes.length ≤ s.office.readPos + 1 →
          ∀ b, exec (.byteReceived officeLink b) s = .next (cleared a))))

/-- R102, R164 to R166, R169, R181 to R185: a warm start, after RESET or at power-up with RETAIN_OK active, keeps the retained memory, discards
every credit as withdrawn, removes every TENTATIVE entry with a rise of the generation, clears every passback hold, closes
the day, clears the clock, stops the lift, and appends a START record with what it removed. The lost watch's reference of 0
(log 23) and the office link's data-out byte of 0x00 (log 24) are the model's choices. -/
def Obligations.WarmStartsKeepTheRetainedMemory : Prop :=
  ∀ s : State,
    let removed := (s.passes.map fun p => tentatives p.uses).sum
    let warm (cause : StartCause) : State := { s with
      run := .running, clock := 0, offset := 0, clockSet := false, day := .closed
      passes := s.passes.map fun p => { p with
        uses := p.uses.filter fun x => decide (x.status = .final)
        generation := if ∀ x ∈ p.uses, x.status = .final then p.generation else (p.generation + 1) % 65536
        holdEnd := none }
      lanes := s.lanes.map fun u => {
        config := u.config, nextCredit := u.nextCredit
        counts := { u.counts with withdrawn := min (u.counts.withdrawn + u.queue.length) 4294967295 }
        gate := .off, queue := [], tracker := .notRead, rotation := none, beam := none, lastSample := none
        firstSample := true, settleEnd := none, passageFrom := none, blockedFrom := none, silenceEnd := none
        link := .alive, unlockOut := false, sensorPower := false, fault := none, lastEnded := none }
      pacer := { s.pacer with
        lift := .stopped, tracking := .tracking, lastEdge := none, history := [], watchRunning := false, watchFrom := 0
        slot := none }
      links := Eight.all
        { receiver := .idle, slot := none, output := [], driver := false, pairs := [], mask := 1, attention := false }
      office := { readPos := 0, fillerOpen := false, dataOut := 0#8 }
      startRecord :=
        { kind := .warm, cause := cause, dayBefore := some s.day, lastOpened := s.lastOpened
          withdrawn := s.credits.length, removed := removed, seq := s.nextSeq }
      journal := (if s.journal.length < 1024 then s.journal else s.journal.tail) ++
        [{ seq := s.nextSeq, stamp := none, body := .start .warm cause s.credits.length removed }]
      nextSeq := (s.nextSeq + 1) % 4294967296 }
    (s.run = .heldReset → exec .resetReleased s = .next (warm .reset)) ∧
    (s.run = .off false → exec (.powerUp true) s = .next (warm .powerUp)) ∧
    (s.run = .heldPowerUp true → exec .resetReleased s = .next (warm .powerUp))

/-! ## Laws that every step keeps -/

/-- Every law holds after reset. -/
def Obligations.ResetKeepsEveryLaw : Prop :=
  PoolLaw State.reset ∧ RecordsLaw State.reset ∧ CreditLaw State.reset ∧ LanesLaw State.reset ∧ DayLaw State.reset ∧
    BalanceLaw State.reset ∧ PacerLaw State.reset.pacer ∧ JournalLaw State.reset ∧ AttentionLaw State.reset ∧
    LinksLaw State.reset ∧ RangeLaw State.reset

/-- R1, R2, R7, R21, R22, R24, R25: every step keeps the pass numbers unique, the free count and the reservations summing to
131,072, and each record in its ranges, its list in day order within D, its refund within P. -/
def Obligations.PassTableLawsAreKept : Prop :=
  ∀ s t : State, PoolLaw s → RecordsLaw s → RangeLaw s → step s = .next t → PoolLaw t ∧ RecordsLaw t

/-- R27, R63, R104, R151: every step keeps at most one credit a pass, a record that is not SURRENDERED behind each credit,
and one TENTATIVE entry for each first-use link. -/
def Obligations.CreditLawsAreKept : Prop :=
  ∀ s t : State, PoolLaw s → CreditLaw s → step s = .next t → CreditLaw t

/-- R57, R69, R79 to R97: every step keeps the laws of the lane units: queue, gate state, sensors, timers and outputs. That a
CLOSING lane with an empty queue may have its rotor at HOME while its leave is the next event (the last case of `GateLaw`) is
the model's reading of R101, log 30 (DEDUCED), and no rule's. -/
def Obligations.LaneLawsAreKept : Prop := ∀ s t : State, LanesLaw s → step s = .next t → LanesLaw t

/-- R47, R48, R121: every step keeps the queues empty while the day is CLOSED, a credit on its way while it is CLOSING, and
each lane's grants equal to its four outcome counts plus the credits queued unless one of them is saturated. -/
def Obligations.DayAndBalanceLawsAreKept : Prop :=
  ∀ s t : State, DayLaw s → BalanceLaw s → step s = .next t → DayLaw t ∧ BalanceLaw t

/-- R37, R40, R44, R67, R77, R124 to R134, R163, R165: every step keeps the pacer's laws and every stored setting in its
range. -/
def Obligations.PacerLawsAndRangesAreKept : Prop :=
  ∀ s t : State, PacerLaw s.pacer → RangeLaw s → step s = .next t → PacerLaw t.pacer ∧ RangeLaw t

/-- R157: every step keeps 1 to 1,024 journal records with consecutive sequence numbers up to the next one. -/
def Obligations.JournalLawIsKept : Prop := ∀ s t : State, JournalLaw s → step s = .next t → JournalLaw t

/-- R164, R166, R167, R169, R173, R174, R176, R182: every step keeps the pending sets within scope and in order, each
attention line decided, and each link's answers, slot and driver in step. -/
def Obligations.LinkLawsAreKept : Prop :=
  ∀ s t : State, AttentionLaw s → LinksLaw s → step s = .next t → AttentionLaw t ∧ LinksLaw t
end

