-- ==== Sys2Proof/Laws/State.lean ====
section
/-! SUPPORT. The banks and the updates of the state: what reads after what write, one lemma for each field and update. -/

namespace Sys2Proof

/-! ## The two banks -/

@[simp] theorem Six.get_set {α : Type} (b : Six α) (i j : LaneNo) (x : α) :
    (b.set i x).get j = if j = i then x else b.get j := by
  fin_cases i <;> fin_cases j <;> rfl

@[simp] theorem Six.get_map {α β : Type} (f : α → β) (b : Six α) (i : LaneNo) : (b.map f).get i = f (b.get i) := by
  fin_cases i <;> rfl

@[simp] theorem Six.get_all {α : Type} (x : α) (i : LaneNo) : (Six.all x).get i = x := by
  fin_cases i <;> rfl

theorem Six.ext_get {α : Type} {a b : Six α} (h : ∀ i, a.get i = b.get i) : a = b := by
  cases a; cases b
  simp only [Six.mk.injEq]
  exact ⟨h 0, h 1, h 2, h 3, h 4, h 5⟩

@[simp] theorem Six.set_get {α : Type} (b : Six α) (i : LaneNo) : b.set i (b.get i) = b := by
  fin_cases i <;> rfl

@[simp] theorem Six.set_set {α : Type} (b : Six α) (i : LaneNo) (x y : α) : (b.set i x).set i y = b.set i y := by
  fin_cases i <;> rfl

theorem Six.toList_eq {α : Type} (b : Six α) : b.toList = allLanes.map b.get := rfl

theorem mem_allLanes (i : LaneNo) : i ∈ allLanes := by fin_cases i <;> simp [allLanes]

@[simp] theorem Eight.get_set {α : Type} (b : Eight α) (i j : Fin 8) (x : α) :
    (b.set i x).get j = if j = i then x else b.get j := by
  fin_cases i <;> fin_cases j <;> rfl

@[simp] theorem Eight.get_map {α β : Type} (f : α → β) (b : Eight α) (i : Fin 8) : (b.map f).get i = f (b.get i) := by
  fin_cases i <;> rfl

@[simp] theorem Eight.get_all {α : Type} (x : α) (i : Fin 8) : (Eight.all x).get i = x := by
  fin_cases i <;> rfl

theorem Eight.ext_get {α : Type} {a b : Eight α} (h : ∀ i, a.get i = b.get i) : a = b := by
  cases a; cases b
  simp only [Eight.mk.injEq]
  exact ⟨h 0, h 1, h 2, h 3, h 4, h 5, h 6, h 7⟩

@[simp] theorem Eight.set_get {α : Type} (b : Eight α) (i : Fin 8) : b.set i (b.get i) = b := by
  fin_cases i <;> rfl

@[simp] theorem Eight.set_set {α : Type} (b : Eight α) (i : Fin 8) (x y : α) : (b.set i x).set i y = b.set i y := by
  fin_cases i <;> rfl

theorem mem_allLinks (l : LinkNo) : l ∈ allLinks := by fin_cases l <;> simp [allLinks]

namespace Machine

/-! ## Lanes and links after an update -/

@[simp] theorem State.setLane_lane (s : State) (i j : LaneNo) (u : LaneUnit) :
    (s.setLane i u).lane j = if j = i then u else s.lane j := Six.get_set s.lanes i j u

@[simp] theorem State.modLane_lane (s : State) (i j : LaneNo) (f : LaneUnit → LaneUnit) :
    (s.modLane i f).lane j = if j = i then f (s.lane i) else s.lane j := Six.get_set s.lanes i j _

@[simp] theorem State.setLane_setLane (s : State) (i : LaneNo) (u v : LaneUnit) :
    (s.setLane i u).setLane i v = s.setLane i v := by
  simp [State.setLane]

@[simp] theorem State.setLane_modLane (s : State) (i : LaneNo) (f : LaneUnit → LaneUnit) (v : LaneUnit) :
    (s.modLane i f).setLane i v = s.setLane i v := State.setLane_setLane s i _ v

@[simp] theorem State.setLane_lane_self (s : State) (i : LaneNo) : s.setLane i (s.lane i) = s := by
  simp [State.setLane, State.lane]

@[simp] theorem State.setLane_link (s : State) (i : LaneNo) (u : LaneUnit) (l : LinkNo) :
    (s.setLane i u).link l = s.link l := rfl

@[simp] theorem State.modLane_link (s : State) (i : LaneNo) (f : LaneUnit → LaneUnit) (l : LinkNo) :
    (s.modLane i f).link l = s.link l := rfl

@[simp] theorem State.setLink_link (s : State) (l k : LinkNo) (e : Endpoint) :
    (s.setLink l e).link k = if k = l then e else s.link k := Eight.get_set s.links l k e

@[simp] theorem State.modLink_link (s : State) (l k : LinkNo) (f : Endpoint → Endpoint) :
    (s.modLink l f).link k = if k = l then f (s.link l) else s.link k := Eight.get_set s.links l k _

@[simp] theorem State.setLink_lane (s : State) (l : LinkNo) (e : Endpoint) (i : LaneNo) :
    (s.setLink l e).lane i = s.lane i := rfl

@[simp] theorem State.modLink_lane (s : State) (l : LinkNo) (f : Endpoint → Endpoint) (i : LaneNo) :
    (s.modLink l f).lane i = s.lane i := rfl

@[simp] theorem State.waitUntil_lane (s : State) (t : Nat) (i : LaneNo) : (s.waitUntil t).lane i = s.lane i := rfl
@[simp] theorem State.waitUntil_link (s : State) (t : Nat) (l : LinkNo) : (s.waitUntil t).link l = s.link l := rfl
@[simp] theorem State.modPass_lane (s : State) (n : Nat) (f : Pass → Pass) (i : LaneNo) :
    (s.modPass n f).lane i = s.lane i := rfl
@[simp] theorem State.modPass_link (s : State) (n : Nat) (f : Pass → Pass) (l : LinkNo) :
    (s.modPass n f).link l = s.link l := rfl
@[simp] theorem State.append_lane (s : State) (b : JournalBody) (i : LaneNo) : (s.append b).lane i = s.lane i := rfl
@[simp] theorem State.append_link (s : State) (b : JournalBody) (l : LinkNo) : (s.append b).link l = s.link l := rfl

/-! ## Fields after an update -/

/-! ### `State.setLane` -/

@[simp] theorem State.setLane_pending (s : State) (i : LaneNo) (u : LaneUnit) :
    (s.setLane i u).pending = s.pending := rfl
@[simp] theorem State.setLane_run (s : State) (i : LaneNo) (u : LaneUnit) : (s.setLane i u).run = s.run := rfl
@[simp] theorem State.setLane_passes (s : State) (i : LaneNo) (u : LaneUnit) :
    (s.setLane i u).passes = s.passes := rfl
@[simp] theorem State.setLane_free (s : State) (i : LaneNo) (u : LaneUnit) : (s.setLane i u).free = s.free := rfl
@[simp] theorem State.setLane_tariffs (s : State) (i : LaneNo) (u : LaneUnit) :
    (s.setLane i u).tariffs = s.tariffs := rfl
@[simp] theorem State.setLane_clock (s : State) (i : LaneNo) (u : LaneUnit) : (s.setLane i u).clock = s.clock := rfl
@[simp] theorem State.setLane_offset (s : State) (i : LaneNo) (u : LaneUnit) :
    (s.setLane i u).offset = s.offset := rfl
@[simp] theorem State.setLane_clockSet (s : State) (i : LaneNo) (u : LaneUnit) :
    (s.setLane i u).clockSet = s.clockSet := rfl
@[simp] theorem State.setLane_day (s : State) (i : LaneNo) (u : LaneUnit) : (s.setLane i u).day = s.day := rfl
@[simp] theorem State.setLane_lastOpened (s : State) (i : LaneNo) (u : LaneUnit) :
    (s.setLane i u).lastOpened = s.lastOpened := rfl
@[simp] theorem State.setLane_lanes (s : State) (i : LaneNo) (u : LaneUnit) :
    (s.setLane i u).lanes = s.lanes.set i u := rfl
@[simp] theorem State.setLane_pacer (s : State) (i : LaneNo) (u : LaneUnit) : (s.setLane i u).pacer = s.pacer := rfl
@[simp] theorem State.setLane_journal (s : State) (i : LaneNo) (u : LaneUnit) :
    (s.setLane i u).journal = s.journal := rfl
@[simp] theorem State.setLane_nextSeq (s : State) (i : LaneNo) (u : LaneUnit) :
    (s.setLane i u).nextSeq = s.nextSeq := rfl
@[simp] theorem State.setLane_levels (s : State) (i : LaneNo) (u : LaneUnit) :
    (s.setLane i u).levels = s.levels := rfl
@[simp] theorem State.setLane_links (s : State) (i : LaneNo) (u : LaneUnit) : (s.setLane i u).links = s.links := rfl
@[simp] theorem State.setLane_office (s : State) (i : LaneNo) (u : LaneUnit) :
    (s.setLane i u).office = s.office := rfl
@[simp] theorem State.setLane_startRecord (s : State) (i : LaneNo) (u : LaneUnit) :
    (s.setLane i u).startRecord = s.startRecord := rfl
@[simp] theorem State.setLane_freeCount (s : State) (i : LaneNo) (u : LaneUnit) :
    (s.setLane i u).freeCount = s.freeCount := rfl

/-! ### `State.modLane` -/

@[simp] theorem State.modLane_pending (s : State) (i : LaneNo) (f : LaneUnit → LaneUnit) :
    (s.modLane i f).pending = s.pending := rfl
@[simp] theorem State.modLane_run (s : State) (i : LaneNo) (f : LaneUnit → LaneUnit) :
    (s.modLane i f).run = s.run := rfl
@[simp] theorem State.modLane_passes (s : State) (i : LaneNo) (f : LaneUnit → LaneUnit) :
    (s.modLane i f).passes = s.passes := rfl
@[simp] theorem State.modLane_free (s : State) (i : LaneNo) (f : LaneUnit → LaneUnit) :
    (s.modLane i f).free = s.free := rfl
@[simp] theorem State.modLane_tariffs (s : State) (i : LaneNo) (f : LaneUnit → LaneUnit) :
    (s.modLane i f).tariffs = s.tariffs := rfl
@[simp] theorem State.modLane_clock (s : State) (i : LaneNo) (f : LaneUnit → LaneUnit) :
    (s.modLane i f).clock = s.clock := rfl
@[simp] theorem State.modLane_offset (s : State) (i : LaneNo) (f : LaneUnit → LaneUnit) :
    (s.modLane i f).offset = s.offset := rfl
@[simp] theorem State.modLane_clockSet (s : State) (i : LaneNo) (f : LaneUnit → LaneUnit) :
    (s.modLane i f).clockSet = s.clockSet := rfl
@[simp] theorem State.modLane_day (s : State) (i : LaneNo) (f : LaneUnit → LaneUnit) :
    (s.modLane i f).day = s.day := rfl
@[simp] theorem State.modLane_lastOpened (s : State) (i : LaneNo) (f : LaneUnit → LaneUnit) :
    (s.modLane i f).lastOpened = s.lastOpened := rfl
@[simp] theorem State.modLane_lanes (s : State) (i : LaneNo) (f : LaneUnit → LaneUnit) :
    (s.modLane i f).lanes = s.lanes.set i (f (s.lane i)) := rfl
@[simp] theorem State.modLane_pacer (s : State) (i : LaneNo) (f : LaneUnit → LaneUnit) :
    (s.modLane i f).pacer = s.pacer := rfl
@[simp] theorem State.modLane_journal (s : State) (i : LaneNo) (f : LaneUnit → LaneUnit) :
    (s.modLane i f).journal = s.journal := rfl
@[simp] theorem State.modLane_nextSeq (s : State) (i : LaneNo) (f : LaneUnit → LaneUnit) :
    (s.modLane i f).nextSeq = s.nextSeq := rfl
@[simp] theorem State.modLane_levels (s : State) (i : LaneNo) (f : LaneUnit → LaneUnit) :
    (s.modLane i f).levels = s.levels := rfl
@[simp] theorem State.modLane_links (s : State) (i : LaneNo) (f : LaneUnit → LaneUnit) :
    (s.modLane i f).links = s.links := rfl
@[simp] theorem State.modLane_office (s : State) (i : LaneNo) (f : LaneUnit → LaneUnit) :
    (s.modLane i f).office = s.office := rfl
@[simp] theorem State.modLane_startRecord (s : State) (i : LaneNo) (f : LaneUnit → LaneUnit) :
    (s.modLane i f).startRecord = s.startRecord := rfl
@[simp] theorem State.modLane_freeCount (s : State) (i : LaneNo) (f : LaneUnit → LaneUnit) :
    (s.modLane i f).freeCount = s.freeCount := rfl

/-! ### `State.setLink` -/

@[simp] theorem State.setLink_pending (s : State) (l : LinkNo) (e : Endpoint) :
    (s.setLink l e).pending = s.pending := rfl
@[simp] theorem State.setLink_run (s : State) (l : LinkNo) (e : Endpoint) : (s.setLink l e).run = s.run := rfl
@[simp] theorem State.setLink_passes (s : State) (l : LinkNo) (e : Endpoint) :
    (s.setLink l e).passes = s.passes := rfl
@[simp] theorem State.setLink_free (s : State) (l : LinkNo) (e : Endpoint) : (s.setLink l e).free = s.free := rfl
@[simp] theorem State.setLink_tariffs (s : State) (l : LinkNo) (e : Endpoint) :
    (s.setLink l e).tariffs = s.tariffs := rfl
@[simp] theorem State.setLink_clock (s : State) (l : LinkNo) (e : Endpoint) : (s.setLink l e).clock = s.clock := rfl
@[simp] theorem State.setLink_offset (s : State) (l : LinkNo) (e : Endpoint) :
    (s.setLink l e).offset = s.offset := rfl
@[simp] theorem State.setLink_clockSet (s : State) (l : LinkNo) (e : Endpoint) :
    (s.setLink l e).clockSet = s.clockSet := rfl
@[simp] theorem State.setLink_day (s : State) (l : LinkNo) (e : Endpoint) : (s.setLink l e).day = s.day := rfl
@[simp] theorem State.setLink_lastOpened (s : State) (l : LinkNo) (e : Endpoint) :
    (s.setLink l e).lastOpened = s.lastOpened := rfl
@[simp] theorem State.setLink_lanes (s : State) (l : LinkNo) (e : Endpoint) : (s.setLink l e).lanes = s.lanes := rfl
@[simp] theorem State.setLink_pacer (s : State) (l : LinkNo) (e : Endpoint) : (s.setLink l e).pacer = s.pacer := rfl
@[simp] theorem State.setLink_journal (s : State) (l : LinkNo) (e : Endpoint) :
    (s.setLink l e).journal = s.journal := rfl
@[simp] theorem State.setLink_nextSeq (s : State) (l : LinkNo) (e : Endpoint) :
    (s.setLink l e).nextSeq = s.nextSeq := rfl
@[simp] theorem State.setLink_levels (s : State) (l : LinkNo) (e : Endpoint) :
    (s.setLink l e).levels = s.levels := rfl
@[simp] theorem State.setLink_links (s : State) (l : LinkNo) (e : Endpoint) :
    (s.setLink l e).links = s.links.set l e := rfl
@[simp] theorem State.setLink_office (s : State) (l : LinkNo) (e : Endpoint) :
    (s.setLink l e).office = s.office := rfl
@[simp] theorem State.setLink_startRecord (s : State) (l : LinkNo) (e : Endpoint) :
    (s.setLink l e).startRecord = s.startRecord := rfl
@[simp] theorem State.setLink_freeCount (s : State) (l : LinkNo) (e : Endpoint) :
    (s.setLink l e).freeCount = s.freeCount := rfl

/-! ### `State.modLink` -/

@[simp] theorem State.modLink_pending (s : State) (l : LinkNo) (f : Endpoint → Endpoint) :
    (s.modLink l f).pending = s.pending := rfl
@[simp] theorem State.modLink_run (s : State) (l : LinkNo) (f : Endpoint → Endpoint) :
    (s.modLink l f).run = s.run := rfl
@[simp] theorem State.modLink_passes (s : State) (l : LinkNo) (f : Endpoint → Endpoint) :
    (s.modLink l f).passes = s.passes := rfl
@[simp] theorem State.modLink_free (s : State) (l : LinkNo) (f : Endpoint → Endpoint) :
    (s.modLink l f).free = s.free := rfl
@[simp] theorem State.modLink_tariffs (s : State) (l : LinkNo) (f : Endpoint → Endpoint) :
    (s.modLink l f).tariffs = s.tariffs := rfl
@[simp] theorem State.modLink_clock (s : State) (l : LinkNo) (f : Endpoint → Endpoint) :
    (s.modLink l f).clock = s.clock := rfl
@[simp] theorem State.modLink_offset (s : State) (l : LinkNo) (f : Endpoint → Endpoint) :
    (s.modLink l f).offset = s.offset := rfl
@[simp] theorem State.modLink_clockSet (s : State) (l : LinkNo) (f : Endpoint → Endpoint) :
    (s.modLink l f).clockSet = s.clockSet := rfl
@[simp] theorem State.modLink_day (s : State) (l : LinkNo) (f : Endpoint → Endpoint) :
    (s.modLink l f).day = s.day := rfl
@[simp] theorem State.modLink_lastOpened (s : State) (l : LinkNo) (f : Endpoint → Endpoint) :
    (s.modLink l f).lastOpened = s.lastOpened := rfl
@[simp] theorem State.modLink_lanes (s : State) (l : LinkNo) (f : Endpoint → Endpoint) :
    (s.modLink l f).lanes = s.lanes := rfl
@[simp] theorem State.modLink_pacer (s : State) (l : LinkNo) (f : Endpoint → Endpoint) :
    (s.modLink l f).pacer = s.pacer := rfl
@[simp] theorem State.modLink_journal (s : State) (l : LinkNo) (f : Endpoint → Endpoint) :
    (s.modLink l f).journal = s.journal := rfl
@[simp] theorem State.modLink_nextSeq (s : State) (l : LinkNo) (f : Endpoint → Endpoint) :
    (s.modLink l f).nextSeq = s.nextSeq := rfl
@[simp] theorem State.modLink_levels (s : State) (l : LinkNo) (f : Endpoint → Endpoint) :
    (s.modLink l f).levels = s.levels := rfl
@[simp] theorem State.modLink_links (s : State) (l : LinkNo) (f : Endpoint → Endpoint) :
    (s.modLink l f).links = s.links.set l (f (s.link l)) := rfl
@[simp] theorem State.modLink_office (s : State) (l : LinkNo) (f : Endpoint → Endpoint) :
    (s.modLink l f).office = s.office := rfl
@[simp] theorem State.modLink_startRecord (s : State) (l : LinkNo) (f : Endpoint → Endpoint) :
    (s.modLink l f).startRecord = s.startRecord := rfl
@[simp] theorem State.modLink_freeCount (s : State) (l : LinkNo) (f : Endpoint → Endpoint) :
    (s.modLink l f).freeCount = s.freeCount := rfl

/-! ### `State.waitUntil` -/

@[simp] theorem State.waitUntil_pending (s : State) (t : Nat) : (s.waitUntil t).pending = s.pending := rfl
@[simp] theorem State.waitUntil_run (s : State) (t : Nat) : (s.waitUntil t).run = s.run := rfl
@[simp] theorem State.waitUntil_passes (s : State) (t : Nat) : (s.waitUntil t).passes = s.passes := rfl
@[simp] theorem State.waitUntil_free (s : State) (t : Nat) : (s.waitUntil t).free = s.free := rfl
@[simp] theorem State.waitUntil_tariffs (s : State) (t : Nat) : (s.waitUntil t).tariffs = s.tariffs := rfl
@[simp] theorem State.waitUntil_clock (s : State) (t : Nat) : (s.waitUntil t).clock = max s.clock t := rfl
@[simp] theorem State.waitUntil_offset (s : State) (t : Nat) : (s.waitUntil t).offset = s.offset := rfl
@[simp] theorem State.waitUntil_clockSet (s : State) (t : Nat) : (s.waitUntil t).clockSet = s.clockSet := rfl
@[simp] theorem State.waitUntil_day (s : State) (t : Nat) : (s.waitUntil t).day = s.day := rfl
@[simp] theorem State.waitUntil_lastOpened (s : State) (t : Nat) : (s.waitUntil t).lastOpened = s.lastOpened := rfl
@[simp] theorem State.waitUntil_lanes (s : State) (t : Nat) : (s.waitUntil t).lanes = s.lanes := rfl
@[simp] theorem State.waitUntil_pacer (s : State) (t : Nat) : (s.waitUntil t).pacer = s.pacer := rfl
@[simp] theorem State.waitUntil_journal (s : State) (t : Nat) : (s.waitUntil t).journal = s.journal := rfl
@[simp] theorem State.waitUntil_nextSeq (s : State) (t : Nat) : (s.waitUntil t).nextSeq = s.nextSeq := rfl
@[simp] theorem State.waitUntil_levels (s : State) (t : Nat) : (s.waitUntil t).levels = s.levels := rfl
@[simp] theorem State.waitUntil_links (s : State) (t : Nat) : (s.waitUntil t).links = s.links := rfl
@[simp] theorem State.waitUntil_office (s : State) (t : Nat) : (s.waitUntil t).office = s.office := rfl
@[simp] theorem State.waitUntil_startRecord (s : State) (t : Nat) : (s.waitUntil t).startRecord = s.startRecord := rfl
@[simp] theorem State.waitUntil_freeCount (s : State) (t : Nat) : (s.waitUntil t).freeCount = s.freeCount := rfl

/-! ### `State.modPass` -/

@[simp] theorem State.modPass_pending (s : State) (n : Nat) (f : Pass → Pass) :
    (s.modPass n f).pending = s.pending := rfl
@[simp] theorem State.modPass_run (s : State) (n : Nat) (f : Pass → Pass) : (s.modPass n f).run = s.run := rfl
@[simp] theorem State.modPass_passes (s : State) (n : Nat) (f : Pass → Pass) :
    (s.modPass n f).passes = s.passes.map fun p => if p.number = n then f p else p := rfl
@[simp] theorem State.modPass_free (s : State) (n : Nat) (f : Pass → Pass) : (s.modPass n f).free = s.free := rfl
@[simp] theorem State.modPass_tariffs (s : State) (n : Nat) (f : Pass → Pass) :
    (s.modPass n f).tariffs = s.tariffs := rfl
@[simp] theorem State.modPass_clock (s : State) (n : Nat) (f : Pass → Pass) : (s.modPass n f).clock = s.clock := rfl
@[simp] theorem State.modPass_offset (s : State) (n : Nat) (f : Pass → Pass) :
    (s.modPass n f).offset = s.offset := rfl
@[simp] theorem State.modPass_clockSet (s : State) (n : Nat) (f : Pass → Pass) :
    (s.modPass n f).clockSet = s.clockSet := rfl
@[simp] theorem State.modPass_day (s : State) (n : Nat) (f : Pass → Pass) : (s.modPass n f).day = s.day := rfl
@[simp] theorem State.modPass_lastOpened (s : State) (n : Nat) (f : Pass → Pass) :
    (s.modPass n f).lastOpened = s.lastOpened := rfl
@[simp] theorem State.modPass_lanes (s : State) (n : Nat) (f : Pass → Pass) : (s.modPass n f).lanes = s.lanes := rfl
@[simp] theorem State.modPass_pacer (s : State) (n : Nat) (f : Pass → Pass) : (s.modPass n f).pacer = s.pacer := rfl
@[simp] theorem State.modPass_journal (s : State) (n : Nat) (f : Pass → Pass) :
    (s.modPass n f).journal = s.journal := rfl
@[simp] theorem State.modPass_nextSeq (s : State) (n : Nat) (f : Pass → Pass) :
    (s.modPass n f).nextSeq = s.nextSeq := rfl
@[simp] theorem State.modPass_levels (s : State) (n : Nat) (f : Pass → Pass) :
    (s.modPass n f).levels = s.levels := rfl
@[simp] theorem State.modPass_links (s : State) (n : Nat) (f : Pass → Pass) : (s.modPass n f).links = s.links := rfl
@[simp] theorem State.modPass_office (s : State) (n : Nat) (f : Pass → Pass) :
    (s.modPass n f).office = s.office := rfl
@[simp] theorem State.modPass_startRecord (s : State) (n : Nat) (f : Pass → Pass) :
    (s.modPass n f).startRecord = s.startRecord := rfl
@[simp] theorem State.modPass_freeCount (s : State) (n : Nat) (f : Pass → Pass) :
    (s.modPass n f).freeCount = s.freeCount := rfl

/-! ### `State.append` -/

@[simp] theorem State.append_pending (s : State) (b : JournalBody) : (s.append b).pending = s.pending := rfl
@[simp] theorem State.append_run (s : State) (b : JournalBody) : (s.append b).run = s.run := rfl
@[simp] theorem State.append_passes (s : State) (b : JournalBody) : (s.append b).passes = s.passes := rfl
@[simp] theorem State.append_free (s : State) (b : JournalBody) : (s.append b).free = s.free := rfl
@[simp] theorem State.append_tariffs (s : State) (b : JournalBody) : (s.append b).tariffs = s.tariffs := rfl
@[simp] theorem State.append_clock (s : State) (b : JournalBody) : (s.append b).clock = s.clock := rfl
@[simp] theorem State.append_offset (s : State) (b : JournalBody) : (s.append b).offset = s.offset := rfl
@[simp] theorem State.append_clockSet (s : State) (b : JournalBody) : (s.append b).clockSet = s.clockSet := rfl
@[simp] theorem State.append_day (s : State) (b : JournalBody) : (s.append b).day = s.day := rfl
@[simp] theorem State.append_lastOpened (s : State) (b : JournalBody) : (s.append b).lastOpened = s.lastOpened := rfl
@[simp] theorem State.append_lanes (s : State) (b : JournalBody) : (s.append b).lanes = s.lanes := rfl
@[simp] theorem State.append_pacer (s : State) (b : JournalBody) : (s.append b).pacer = s.pacer := rfl
@[simp] theorem State.append_journal (s : State) (b : JournalBody) :
    (s.append b).journal = ringPush s.journal { seq := s.nextSeq, stamp := s.stamp, body := b } := rfl
@[simp] theorem State.append_nextSeq (s : State) (b : JournalBody) :
    (s.append b).nextSeq = (s.nextSeq + 1) % Config.seqTop := rfl
@[simp] theorem State.append_levels (s : State) (b : JournalBody) : (s.append b).levels = s.levels := rfl
@[simp] theorem State.append_links (s : State) (b : JournalBody) : (s.append b).links = s.links := rfl
@[simp] theorem State.append_office (s : State) (b : JournalBody) : (s.append b).office = s.office := rfl
@[simp] theorem State.append_startRecord (s : State) (b : JournalBody) :
    (s.append b).startRecord = s.startRecord := rfl
@[simp] theorem State.append_freeCount (s : State) (b : JournalBody) : (s.append b).freeCount = s.freeCount := rfl
end Machine

end Sys2Proof
end

