-- ==== Sys2Proof/Laws/Bytes.lean ====
section
/-! SUPPORT. The lengths of fields, records and frames, the shift of the CRC register, and what a byte clocked on the office
link leaves as it was. -/

namespace Sys2Proof

@[simp] theorem be_length (w n : Nat) : (be w n).length = w := by
  induction w generalizing n with
  | zero => rfl
  | succ w ih => simp [be, ih]

/-- A frame is its body and six bytes around it (R170). -/
@[simp] theorem frameOf_length (marker : Byte) (code tag : Nat) (body : List Byte) :
    (frameOf marker code tag body).length = 6 + body.length := by
  simp [frameOf]; omega

/-- One shift of the CRC register with a word added: the polynomial goes in when the two top bits differ (R170). -/
theorem crcShift_xor (r y : BitVec 16) :
    crcShift (r ^^^ y) = ((r <<< 1) ^^^ (if r.msb ^^ y.msb then 0x1021#16 else 0#16)) ^^^ (y <<< 1) := by
  unfold crcShift
  rw [BitVec.msb_xor, BitVec.shiftLeft_xor_distrib]
  cases r.msb <;> cases y.msb <;>
    simp only [Bool.xor_true, Bool.xor_false, Bool.not_true, Bool.not_false, Bool.false_eq_true, if_true, if_false,
      BitVec.xor_zero] <;> ac_rfl

end Sys2Proof

namespace Sys2Proof.Machine

@[simp] theorem boolBytes_length (b : Bool) : (boolBytes b).length = 1 := be_length 1 _
@[simp] theorem orNone_length (n : Option Nat) : (orNone n).length = 1 := be_length 1 _
@[simp] theorem optBytes_length (w : Nat) (n : Option Nat) : (optBytes w n).length = w + 1 := by
  simp [optBytes]; omega
@[simp] theorem Credit.bytes_length (c : Credit) : c.bytes.length = 49 := by simp [Credit.bytes]
@[simp] theorem rotationBytes_length (r : Option Rotation) : (rotationBytes r).length = 23 := by
  unfold rotationBytes; split <;> simp
@[simp] theorem sampleBytes_length (x : Option Sample) : (sampleBytes x).length = 9 := by
  unfold sampleBytes; split <;> simp
@[simp] theorem faultBytes_length (f : Option FaultRecord) : (faultBytes f).length = 13 := by
  unfold faultBytes; split <;> simp
@[simp] theorem slotBytes_length (k : Option Slot) : (slotBytes k).length = 28 := by
  unfold slotBytes; split <;> simp
@[simp] theorem configBytes_length (c : LaneConfig) : (configBytes c).length = 14 := by simp [configBytes]

/-- The bytes of the fields of R99: 49 for each credit queued. -/
@[simp] theorem LaneReport.named_length (r : LaneReport) : r.named.length = 67 + 49 * r.queue.length := by
  have h : (r.queue.flatMap Credit.bytes).length = 49 * r.queue.length := by
    induction r.queue with
    | nil => rfl
    | cons c cs ih => simp [ih]; omega
  simp [LaneReport.named, listBytes, h]; omega

/-- READ LANE data takes 254 bytes with a full queue (log 16). -/
@[simp] theorem LaneReport.bytes_length (r : LaneReport) : r.bytes.length = 156 + 49 * r.queue.length := by
  simp [LaneReport.bytes, Config.laneReportRest]; omega

/-- Once the free value of the filler is used, lanes, links and the rest are as before (log 22). -/
theorem State.useFiller_eq (s : State) :
    s.useFiller = { s with office := s.useFiller.office, freeCount := s.useFiller.freeCount } := by
  unfold State.useFiller; split <;> rfl

/-- A byte clocked out that is not the last of CLEAR ALL's answer changes the office link's answers, slot and driver, its
output port and the counter of free values, and nothing else (R177). -/
theorem State.clockOut_eq (s : State)
    (h : ∀ a ∈ (s.link officeLink).output.head?, a.answer = .cleared → s.office.readPos + 1 < a.bytes.length) :
    s.clearsNow = false ∧ ∃ (out : List OutAnswer) (slot : Option (Nat × Nat)) (driver : Bool),
      s.clockOut =
        { s.modLink officeLink fun e => { e with output := out, slot := slot, driver := driver } with
          office := s.clockOut.office, freeCount := s.clockOut.freeCount } := by
  have keep : s = s.modLink officeLink fun e =>
      { e with output := (s.link officeLink).output, slot := (s.link officeLink).slot
               driver := (s.link officeLink).driver } := by
    show s = { s with links := s.links.set officeLink (s.links.get officeLink) }
    rw [Eight.set_get]
  unfold State.clearsNow State.clockOut
  cases ho : (s.link officeLink).output with
  | nil =>
    rw [ho] at keep
    refine ⟨rfl, [], (s.link officeLink).slot, (s.link officeLink).driver, ?_⟩
    rw [← keep]
    rfl
  | cons a as =>
    have hc : a.answer = .cleared → s.office.readPos + 1 < a.bytes.length := h a (by simp [ho])
    refine ⟨by simpa using fun _ => hc, ?_⟩
    rw [ho] at keep
    dsimp only
    split
    · refine ⟨a :: as, (s.link officeLink).slot, (s.link officeLink).driver, ?_⟩
      rw [← keep, s.useFiller_eq]
      rfl
    · have hp : s.useFiller.office.readPos = s.office.readPos := by unfold State.useFiller; split <;> rfl
      rw [State.clockByte, hp]
      have hn : ¬ s.office.readPos + 1 < a.bytes.length → a.answer ≠ .cleared := fun h => mt hc h
      rw [s.useFiller_eq]
      unfold State.officeSent
      split
      · refine ⟨beginHead (a :: as), (s.link officeLink).slot, false, ?_⟩
        simp [State.modLink, State.setLink, State.link, Endpoint.beginSend] at ho ⊢
        simp [ho]
      · rw [if_neg (hn ‹_›)]
        refine ⟨as, slotAfter a (s.link officeLink).slot, (s.link officeLink).driver, ?_⟩
        simp [State.modLink, State.setLink, State.link, Endpoint.officeSent] at ho ⊢
        simp [ho]

end Sys2Proof.Machine
end

