-- ==== Sys2Proof/Laws/Release.lean ====
section
/-! SUPPORT. What releases and unlock starts touch: lanes and, in a slot, the pacer. -/

namespace Sys2Proof.Machine

/-- An unlock start touches its lane. -/
theorem State.tryUnlock_eq (s : State) (i : LaneNo) :
    s.tryUnlock i =
      s.setLane i (if (s.lane i).unlockDue s.clock then (s.lane i).startUnlock s.clock else s.lane i) := by
  unfold State.tryUnlock
  split
  · rfl
  · simp [State.setLane, State.lane]

/-- A FREE release touches its lane. -/
theorem State.freeRelease_eq (s : State) (i : LaneNo) : ∃ u, s.freeRelease i = s.setLane i u := by
  unfold State.freeRelease
  split
  · rw [State.tryUnlock_eq]
    exact ⟨_, State.setLane_modLane _ _ _ _⟩
  · exact ⟨s.lane i, by simp⟩

/-- The releases of FREE mode touch the lanes alone. -/
theorem State.freeReleaseAll_eq (s : State) : s.freeReleaseAll = { s with lanes := s.freeReleaseAll.lanes } := by
  have key : ∀ (is : List LaneNo) (t : State),
      is.foldl State.freeRelease t = { t with lanes := (is.foldl State.freeRelease t).lanes } := by
    intro is
    induction is with
    | nil => intro t; rfl
    | cons i is ih =>
      intro t
      obtain ⟨u, h⟩ := t.freeRelease_eq i
      rw [List.foldl_cons, ih, h]
      rfl
  exact key _ s

/-- A release into a slot touches its lane, and the slot and the released count of the pacer. -/
theorem State.releaseInto_eq (s : State) (k : Slot) (i : LaneNo) :
    ∃ u, s.releaseInto k i =
      { s.setLane i u with
        pacer := { s.pacer with
          slot := some { k with released := k.released + 1 }
          counts := { s.pacer.counts with seatsReleased := satAdd s.pacer.counts.seatsReleased 1 } } } := by
  unfold State.releaseInto
  simp only [State.tryUnlock_eq]
  exact ⟨_, by simp only [State.modLane, State.setLane, Six.set_set]; rfl⟩

/-- Arbitration touches the lanes and the pacer alone. -/
theorem State.arbitrate_eq (s : State) :
    s.arbitrate = { s with lanes := s.arbitrate.lanes, pacer := s.arbitrate.pacer } := by
  have key : ∀ (n : Nat) (t : State),
      arbitrateUpTo n t = { t with lanes := (arbitrateUpTo n t).lanes, pacer := (arbitrateUpTo n t).pacer } := by
    intro n
    induction n with
    | zero => intro t; rfl
    | succ n ih =>
      intro t
      unfold arbitrateUpTo
      split
      · rename_i k i _ _
        obtain ⟨u, h⟩ := t.releaseInto_eq k i
        rw [ih, h]
        rfl
      · rfl
  exact key _ s

/-- An offer touches the lanes and the pacer alone. -/
theorem State.offer_eq (s : State) (i : LaneNo) :
    s.offer i = { s with lanes := (s.offer i).lanes, pacer := (s.offer i).pacer } := by
  unfold State.offer
  split
  · split
    · exact s.arbitrate_eq
    · obtain ⟨u, h⟩ := s.freeRelease_eq i
      rw [h]; rfl
  · rfl

end Sys2Proof.Machine
end

