-- ==== Sys2Proof/Laws/Requests.lean ====
section
/-! SUPPORT. What taking a request frame can do, and what an answer and a raised pair touch. -/

namespace Sys2Proof.Machine

/-! ## Answers -/

@[simp] theorem State.openFiller_links (s : State) (l : LinkNo) : (s.openFiller l).links = s.links := by
  unfold State.openFiller; split <;> rfl

/-- An answer changes the endpoint it goes out on, and on the office link whether a filler byte may come. -/
theorem State.reply_eq (s : State) (l : LinkNo) (code tag : Nat) (a : Answer) :
    s.reply l code tag a =
      { s with
        links := s.links.set l (Endpoint.pushAnswer code tag a (s.link l))
        office := (s.openFiller l).office } := by
  unfold State.reply State.openFiller; split <;> rfl

@[simp] theorem State.reply_run (s : State) (l : LinkNo) (code tag : Nat) (a : Answer) :
    (s.reply l code tag a).run = s.run := by rw [State.reply_eq]
@[simp] theorem State.reply_pending (s : State) (l : LinkNo) (code tag : Nat) (a : Answer) :
    (s.reply l code tag a).pending = s.pending := by rw [State.reply_eq]
@[simp] theorem State.reply_passes (s : State) (l : LinkNo) (code tag : Nat) (a : Answer) :
    (s.reply l code tag a).passes = s.passes := by rw [State.reply_eq]
@[simp] theorem State.reply_free (s : State) (l : LinkNo) (code tag : Nat) (a : Answer) :
    (s.reply l code tag a).free = s.free := by rw [State.reply_eq]
@[simp] theorem State.reply_tariffs (s : State) (l : LinkNo) (code tag : Nat) (a : Answer) :
    (s.reply l code tag a).tariffs = s.tariffs := by rw [State.reply_eq]
@[simp] theorem State.reply_clock (s : State) (l : LinkNo) (code tag : Nat) (a : Answer) :
    (s.reply l code tag a).clock = s.clock := by rw [State.reply_eq]
@[simp] theorem State.reply_offset (s : State) (l : LinkNo) (code tag : Nat) (a : Answer) :
    (s.reply l code tag a).offset = s.offset := by rw [State.reply_eq]
@[simp] theorem State.reply_clockSet (s : State) (l : LinkNo) (code tag : Nat) (a : Answer) :
    (s.reply l code tag a).clockSet = s.clockSet := by rw [State.reply_eq]
@[simp] theorem State.reply_day (s : State) (l : LinkNo) (code tag : Nat) (a : Answer) :
    (s.reply l code tag a).day = s.day := by rw [State.reply_eq]
@[simp] theorem State.reply_lastOpened (s : State) (l : LinkNo) (code tag : Nat) (a : Answer) :
    (s.reply l code tag a).lastOpened = s.lastOpened := by rw [State.reply_eq]
@[simp] theorem State.reply_lanes (s : State) (l : LinkNo) (code tag : Nat) (a : Answer) :
    (s.reply l code tag a).lanes = s.lanes := by rw [State.reply_eq]
@[simp] theorem State.reply_lane (s : State) (l : LinkNo) (code tag : Nat) (a : Answer) (i : LaneNo) :
    (s.reply l code tag a).lane i = s.lane i := by rw [State.reply_eq]; rfl
@[simp] theorem State.reply_pacer (s : State) (l : LinkNo) (code tag : Nat) (a : Answer) :
    (s.reply l code tag a).pacer = s.pacer := by rw [State.reply_eq]
@[simp] theorem State.reply_journal (s : State) (l : LinkNo) (code tag : Nat) (a : Answer) :
    (s.reply l code tag a).journal = s.journal := by rw [State.reply_eq]
@[simp] theorem State.reply_nextSeq (s : State) (l : LinkNo) (code tag : Nat) (a : Answer) :
    (s.reply l code tag a).nextSeq = s.nextSeq := by rw [State.reply_eq]
@[simp] theorem State.reply_levels (s : State) (l : LinkNo) (code tag : Nat) (a : Answer) :
    (s.reply l code tag a).levels = s.levels := by rw [State.reply_eq]
@[simp] theorem State.reply_startRecord (s : State) (l : LinkNo) (code tag : Nat) (a : Answer) :
    (s.reply l code tag a).startRecord = s.startRecord := by rw [State.reply_eq]
@[simp] theorem State.reply_freeCount (s : State) (l : LinkNo) (code tag : Nat) (a : Answer) :
    (s.reply l code tag a).freeCount = s.freeCount := by rw [State.reply_eq]

@[simp] theorem State.reply_link (s : State) (l k : LinkNo) (code tag : Nat) (a : Answer) :
    (s.reply l code tag a).link k = if k = l then Endpoint.pushAnswer code tag a (s.link l) else s.link k := by
  rw [State.reply_eq]; exact Eight.get_set s.links l k _

/-! ## The state in which a request is acted on -/

/-- A taken frame changes its link's receiver and, on a lane link, the lane's link state and silence timer. -/
theorem State.taken_eq (s : State) (l : LinkNo) :
    s.taken l =
      { s with
        links := s.links.set l { s.link l with receiver := .idle }
        lanes :=
          match laneOfLink l with
          | some i => s.lanes.set i (LaneUnit.revive s.clock (s.lane i))
          | none => s.lanes } := by
  unfold State.taken State.reviveLink
  cases laneOfLink l <;> rfl

/-- On a link that is not a lane's, it changes the receiver alone. -/
theorem State.taken_noLane (s : State) (l : LinkNo) (h : laneOfLink l = none) : s.taken l = s.idleReceiver l := by
  unfold State.taken State.reviveLink; rw [h]

theorem State.taken_office (s : State) : s.taken officeLink = s.idleReceiver officeLink := rfl
theorem State.taken_console (s : State) : s.taken consoleLink = s.idleReceiver consoleLink := rfl

theorem State.taken_lane (s : State) (i : LaneNo) :
    s.taken (linkOfLane i) = (s.idleReceiver (linkOfLane i)).modLane i (LaneUnit.revive s.clock) := by
  have h : laneOfLink (linkOfLane i) = some i := by
    have := i.isLt
    simp [laneOfLink, laneOf, linkOfLane]
  unfold State.taken State.reviveLink; rw [h]; rfl

@[simp] theorem State.taken_link (s : State) (l k : LinkNo) :
    (s.taken l).link k = if k = l then { s.link l with receiver := .idle } else s.link k := by
  rw [State.taken_eq]; exact Eight.get_set s.links l k _

/-! ## Taking a frame -/

/-- Everything a frame that reaches a link can do. -/
theorem takeFrame_cases (l : LinkNo) (code tag : Nat) (act : State → State × Answer) (s : State) :
    ((s.run ≠ .running ∨ (s.link l).driver = true) ∧ takeFrame l code tag act s = .next s) ∨
    (s.run = .running ∧ (s.link l).driver = false ∧
      ((∃ now, (s.link l).slot = some now ∧
        takeFrame l code tag act s = .next ((s.taken l).modLink l (Endpoint.pushBusy code tag now))) ∨
      ((s.link l).slot = none ∧
        ((bodyLength code = none ∧ takeFrame l code tag act s = .next (s.answered l code tag .unknownRequest)) ∨
         (bodyLength code ≠ none ∧ roleMay code (roleOf l) = false ∧
          takeFrame l code tag act s = .next (s.answered l code tag .refusedRole)) ∨
         (bodyLength code ≠ none ∧ roleMay code (roleOf l) = true ∧
          takeFrame l code tag act s = .next ((act (s.taken l)).1.reply l code tag (act (s.taken l)).2)))))) := by
  by_cases h1 : s.run = .running
  · cases h2 : (s.link l).driver with
    | true => exact .inl ⟨.inr rfl, by simp [takeFrame, whenRunning, State.deaf, h1, h2]⟩
    | false =>
      refine .inr ⟨h1, rfl, ?_⟩
      have hrun : takeFrame l code tag act s = .next (s.acceptFrame l code tag act) := by
        simp [takeFrame, whenRunning, State.deaf, h1, h2]
      have hs : ((s.taken l).link l).slot = (s.link l).slot := by simp
      have hacc : s.acceptFrame l code tag act =
          match ((s.taken l).link l).slot with
          | some inProgress => (s.taken l).modLink l (Endpoint.pushBusy code tag inProgress)
          | none =>
            if bodyLength code = none then (s.taken l).reply l code tag .unknownRequest
            else if ¬ roleMay code (roleOf l) then (s.taken l).reply l code tag .refusedRole
            else (act (s.taken l)).1.reply l code tag (act (s.taken l)).2 := rfl
      rw [hrun, hacc, hs]
      cases h3 : (s.link l).slot with
      | some now => exact .inl ⟨now, rfl, rfl⟩
      | none =>
        refine .inr ⟨rfl, ?_⟩
        by_cases hb : bodyLength code = none
        · exact .inl ⟨hb, by simp [hb, State.answered]⟩
        · cases hr : roleMay code (roleOf l) with
          | false => exact .inr (.inl ⟨hb, rfl, by simp [hb, State.answered]⟩)
          | true => exact .inr (.inr ⟨hb, rfl, by simp [hb]⟩)
  · exact .inl ⟨.inl h1, by simp [takeFrame, whenRunning, h1]⟩

/-- A request of R178 taken on a link whose role may make it is acted on and answered. -/
theorem takeFrame_taken {l : LinkNo} {code tag : Nat} {act : State → State × Answer} {s : State} (h : Takes s l)
    (hc : (bodyLength code).isSome = true) (hr : roleMay code (roleOf l) = true) :
    takeFrame l code tag act s = .next ((act (s.taken l)).1.reply l code tag (act (s.taken l)).2) := by
  obtain ⟨h1, h2, h3⟩ := h
  have hn : bodyLength code ≠ none := by intro h; simp [h] at hc
  rcases takeFrame_cases l code tag act s with ⟨h | h, -⟩ | ⟨-, -, ⟨now, h, -⟩ | ⟨-, ⟨h, -⟩ | ⟨-, h, -⟩ | ⟨-, -, h⟩⟩⟩
  · exact absurd h1 h
  · simp [h2] at h
  · simp [h3] at h
  · exact absurd h hn
  · simp [hr] at h
  · exact h

/-! ## A raised pair -/

@[simp] theorem inScope_lift (k : LiftEvent) (l : LinkNo) : inScope (.lift k) l = true := rfl

/-- What a raise does to the endpoints: those within scope take the pair and decide their line. -/
theorem State.raise_link (s : State) (p : EventPair) (l : LinkNo) :
    (s.raise p).link l = if inScope p l = true then Endpoint.raise s.levels p (s.link l) else s.link l := by
  have key : ∀ (ls : List LinkNo) (t : State), ls.Nodup →
      (ls.foldl (fun t l => t.modLink l (Endpoint.raise t.levels p)) t).levels = t.levels ∧
      ∀ k, (ls.foldl (fun t l => t.modLink l (Endpoint.raise t.levels p)) t).link k =
        if k ∈ ls then Endpoint.raise t.levels p (t.link k) else t.link k := by
    intro ls
    induction ls with
    | nil => intro t _; simp
    | cons m ms ih =>
      intro t hn
      obtain ⟨hm, hms⟩ := List.nodup_cons.mp hn
      obtain ⟨h1, h2⟩ := ih (t.modLink m (Endpoint.raise t.levels p)) hms
      refine ⟨by simpa using h1, fun k => ?_⟩
      rw [List.foldl_cons, h2 k]
      by_cases hk : k = m
      · subst hk; simp [hm]
      · simp [hk]
  have := (key (allLinks.filter (inScope p)) s (List.Nodup.filter _ (by decide))).2 l
  rw [State.raise, this]
  simp [mem_allLinks]

/-- A raise changes nothing but the endpoints. -/
theorem State.raise_eq (s : State) (p : EventPair) : s.raise p = { s with links := (s.raise p).links } := by
  have key : ∀ (ls : List LinkNo) (t : State),
      ls.foldl (fun t l => t.modLink l (Endpoint.raise t.levels p)) t =
        { t with links := (ls.foldl (fun t l => t.modLink l (Endpoint.raise t.levels p)) t).links } := by
    intro ls
    induction ls with
    | nil => intro t; rfl
    | cons m ms ih => intro t; rw [List.foldl_cons, ih]; rfl
  exact key _ s

@[simp] theorem State.raise_pending (s : State) (p : EventPair) : (s.raise p).pending = s.pending := by
  rw [State.raise_eq]
@[simp] theorem State.raise_run (s : State) (p : EventPair) : (s.raise p).run = s.run := by
  rw [State.raise_eq]
@[simp] theorem State.raise_passes (s : State) (p : EventPair) : (s.raise p).passes = s.passes := by
  rw [State.raise_eq]
@[simp] theorem State.raise_free (s : State) (p : EventPair) : (s.raise p).free = s.free := by
  rw [State.raise_eq]
@[simp] theorem State.raise_tariffs (s : State) (p : EventPair) : (s.raise p).tariffs = s.tariffs := by
  rw [State.raise_eq]
@[simp] theorem State.raise_clock (s : State) (p : EventPair) : (s.raise p).clock = s.clock := by
  rw [State.raise_eq]
@[simp] theorem State.raise_offset (s : State) (p : EventPair) : (s.raise p).offset = s.offset := by
  rw [State.raise_eq]
@[simp] theorem State.raise_clockSet (s : State) (p : EventPair) : (s.raise p).clockSet = s.clockSet := by
  rw [State.raise_eq]
@[simp] theorem State.raise_day (s : State) (p : EventPair) : (s.raise p).day = s.day := by
  rw [State.raise_eq]
@[simp] theorem State.raise_lastOpened (s : State) (p : EventPair) : (s.raise p).lastOpened = s.lastOpened := by
  rw [State.raise_eq]
@[simp] theorem State.raise_lanes (s : State) (p : EventPair) : (s.raise p).lanes = s.lanes := by
  rw [State.raise_eq]
@[simp] theorem State.raise_pacer (s : State) (p : EventPair) : (s.raise p).pacer = s.pacer := by
  rw [State.raise_eq]
@[simp] theorem State.raise_journal (s : State) (p : EventPair) : (s.raise p).journal = s.journal := by
  rw [State.raise_eq]
@[simp] theorem State.raise_nextSeq (s : State) (p : EventPair) : (s.raise p).nextSeq = s.nextSeq := by
  rw [State.raise_eq]
@[simp] theorem State.raise_levels (s : State) (p : EventPair) : (s.raise p).levels = s.levels := by
  rw [State.raise_eq]
@[simp] theorem State.raise_office (s : State) (p : EventPair) : (s.raise p).office = s.office := by
  rw [State.raise_eq]
@[simp] theorem State.raise_startRecord (s : State) (p : EventPair) : (s.raise p).startRecord = s.startRecord := by
  rw [State.raise_eq]
@[simp] theorem State.raise_freeCount (s : State) (p : EventPair) : (s.raise p).freeCount = s.freeCount := by
  rw [State.raise_eq]
@[simp] theorem State.raise_lane (s : State) (p : EventPair) (i : LaneNo) : (s.raise p).lane i = s.lane i := by
  rw [State.raise_eq]; rfl

end Sys2Proof.Machine
end

