-- ==== Sys2Proof/Laws/CreditEnd.lean ====
section
/-! SUPPORT. What the end of a credit and the withdrawals of one event leave as it was. -/

namespace Sys2Proof.Machine

/-- Two states that differ at most in the lanes, the pass records, the Journal, the endpoints and the day. -/
structure Ends (s t : State) : Prop where
  pending : t.pending = s.pending
  run : t.run = s.run
  free : t.free = s.free
  tariffs : t.tariffs = s.tariffs
  clock : t.clock = s.clock
  offset : t.offset = s.offset
  clockSet : t.clockSet = s.clockSet
  lastOpened : t.lastOpened = s.lastOpened
  pacer : t.pacer = s.pacer
  levels : t.levels = s.levels
  office : t.office = s.office
  startRecord : t.startRecord = s.startRecord
  freeCount : t.freeCount = s.freeCount

theorem Ends.refl (s : State) : Ends s s := ⟨rfl, rfl, rfl, rfl, rfl, rfl, rfl, rfl, rfl, rfl, rfl, rfl, rfl⟩

theorem Ends.trans {s t u : State} (h : Ends s t) (k : Ends t u) : Ends s u :=
  ⟨k.pending.trans h.pending, k.run.trans h.run, k.free.trans h.free, k.tariffs.trans h.tariffs, k.clock.trans h.clock,
    k.offset.trans h.offset, k.clockSet.trans h.clockSet, k.lastOpened.trans h.lastOpened, k.pacer.trans h.pacer,
    k.levels.trans h.levels, k.office.trans h.office, k.startRecord.trans h.startRecord, k.freeCount.trans h.freeCount⟩

theorem Ends.modLane (s : State) (i : LaneNo) (f : LaneUnit → LaneUnit) : Ends s (s.modLane i f) :=
  ⟨rfl, rfl, rfl, rfl, rfl, rfl, rfl, rfl, rfl, rfl, rfl, rfl, rfl⟩
theorem Ends.modPass (s : State) (n : Nat) (f : Pass → Pass) : Ends s (s.modPass n f) :=
  ⟨rfl, rfl, rfl, rfl, rfl, rfl, rfl, rfl, rfl, rfl, rfl, rfl, rfl⟩
theorem Ends.append (s : State) (b : JournalBody) : Ends s (s.append b) :=
  ⟨rfl, rfl, rfl, rfl, rfl, rfl, rfl, rfl, rfl, rfl, rfl, rfl, rfl⟩
theorem Ends.toDay (s : State) (d : DayState) : Ends s { s with day := d } :=
  ⟨rfl, rfl, rfl, rfl, rfl, rfl, rfl, rfl, rfl, rfl, rfl, rfl, rfl⟩
theorem Ends.raise (s : State) (p : EventPair) : Ends s (s.raise p) := by
  constructor <;> simp

theorem Ends.settleLink (s : State) (c : Credit) (o : CreditOutcome) : Ends s (s.settleLink c o) := by
  unfold State.settleLink
  split
  · exact Ends.modPass s _ _
  · exact Ends.refl s

theorem Ends.closeIfDrained (s : State) : Ends s s.closeIfDrained := by
  unfold State.closeIfDrained
  split
  · exact ((Ends.toDay s .closed).trans (Ends.append _ _)).trans (Ends.raise _ _)
  · exact Ends.refl s

/-- The end of a credit. -/
theorem Ends.endCredit (s : State) (i : LaneNo) (place : Nat) (o : CreditOutcome) : Ends s (s.endCredit i place o) := by
  unfold State.endCredit
  split
  · exact Ends.refl s
  · rename_i c _
    have step : ∀ {t : State}, Ends s t → ∀ u : State, Ends t u → Ends s u := fun h _ k => h.trans k
    dsimp only
    refine step ?_ _ (Ends.closeIfDrained _)
    refine step ?_ _ (Ends.modLane _ _ _)
    refine step ?_ _ (Ends.raise _ _)
    have h1 : Ends s ((s.modLane i fun u => u.dequeue place c).settleLink c o) :=
      step (Ends.modLane s _ _) _ (Ends.settleLink _ _ _)
    split
    · refine step ?_ _ (Ends.raise _ _)
      refine step ?_ _ (Ends.append _ _)
      refine step ?_ _ (Ends.append _ _)
      refine step ?_ _ (Ends.modLane _ _ _)
      exact step h1 _ (Ends.modPass _ _ _)
    · refine step ?_ _ (Ends.append _ _)
      exact step h1 _ (Ends.modLane _ _ _)

/-- The withdrawals of one event in one lane. -/
theorem Ends.withdraw (s : State) (i : LaneNo) (cause : Cause) (which : Credit → Bool) :
    Ends s (s.withdraw i cause which) := by
  have key : ∀ (q : List Credit) (place : Nat) (t : State), Ends t (withdrawFrom i cause which q place t) := by
    intro q
    induction q with
    | nil => intro place t; exact Ends.refl t
    | cons c cs ih =>
      intro place t
      unfold withdrawFrom
      split
      · exact (Ends.endCredit t i place _).trans (ih _ _)
      · exact ih _ _
  exact key _ _ s

/-- CLOSE LANE in service. -/
theorem Ends.closeInService (s : State) (i : LaneNo) : Ends s (s.closeInService i) := by
  unfold State.closeInService
  exact (Ends.withdraw s i _ _).trans (Ends.modLane _ i _)

/-- An entry to FAULT. -/
theorem Ends.enterFault (s : State) (i : LaneNo) (cause : FaultCause) : Ends s (s.enterFault i cause) := by
  unfold State.enterFault
  dsimp only
  refine Ends.trans ?_ (Ends.raise _ _)
  refine Ends.trans ?_ (Ends.append _ _)
  refine Ends.trans ?_ (Ends.modLane _ _ _)
  exact (Ends.modLane s i _).trans (Ends.withdraw _ _ _ _)

end Sys2Proof.Machine
end

