-- ==== Sys2Proof/Laws/Tables.lean ====
section
/-! SUPPORT. The ordered lists: an insertion adds its element and keeps the order. -/

namespace Sys2Proof.Machine

theorem mem_insertPass (p q : Pass) (ps : List Pass) : q ∈ insertPass p ps ↔ q = p ∨ q ∈ ps := by
  induction ps with
  | nil => simp [insertPass]
  | cons a as ih =>
    unfold insertPass
    split
    · simp
    · simp [ih]; tauto

theorem length_insertPass (p : Pass) (ps : List Pass) : (insertPass p ps).length = ps.length + 1 := by
  induction ps with
  | nil => rfl
  | cons a as ih => unfold insertPass; split <;> simp [ih]

theorem sum_insertPass (f : Pass → Nat) (p : Pass) (ps : List Pass) :
    ((insertPass p ps).map f).sum = f p + (ps.map f).sum := by
  induction ps with
  | nil => simp [insertPass]
  | cons a as ih =>
    unfold insertPass
    split
    · simp
    · simp [ih]; omega

/-- A new number goes to its place in the order (R1). -/
theorem pairwise_insertPass (p : Pass) (ps : List Pass) (h : ps.Pairwise fun a b => a.number < b.number)
    (hn : ∀ q ∈ ps, q.number ≠ p.number) : (insertPass p ps).Pairwise fun a b => a.number < b.number := by
  induction ps with
  | nil => simp [insertPass]
  | cons a as ih =>
    obtain ⟨ha, has⟩ := List.pairwise_cons.mp h
    have hne := hn a (by simp)
    unfold insertPass
    split
    · refine List.pairwise_cons.mpr ⟨fun q hq => ?_, h⟩
      rcases List.mem_cons.mp hq with rfl | hq
      · assumption
      · have := ha q hq; omega
    · refine List.pairwise_cons.mpr ⟨fun q hq => ?_, ih has fun q hq => hn q (by simp [hq])⟩
      rcases (mem_insertPass p q as).mp hq with rfl | hq
      · omega
      · exact ha q hq

theorem mem_insertUse (e u : DayUse) (us : List DayUse) : u ∈ insertUse e us ↔ u = e ∨ u ∈ us := by
  induction us with
  | nil => simp [insertUse]
  | cons a as ih =>
    unfold insertUse
    split
    · simp
    · simp [ih]; tauto

theorem length_insertUse (e : DayUse) (us : List DayUse) : (insertUse e us).length = us.length + 1 := by
  induction us with
  | nil => rfl
  | cons a as ih => unfold insertUse; split <;> simp [ih]

/-- A new day goes to its place in the order (R24). -/
theorem pairwise_insertUse (e : DayUse) (us : List DayUse) (h : us.Pairwise fun a b => a.day < b.day)
    (hn : findUse e.day us = none) : (insertUse e us).Pairwise fun a b => a.day < b.day := by
  induction us with
  | nil => simp [insertUse]
  | cons a as ih =>
    obtain ⟨ha, has⟩ := List.pairwise_cons.mp h
    simp only [findUse, List.find?_eq_none, List.mem_cons, forall_eq_or_imp, decide_eq_true_eq] at hn
    obtain ⟨hne, hns⟩ := hn
    unfold insertUse
    split
    · refine List.pairwise_cons.mpr ⟨fun q hq => ?_, h⟩
      rcases List.mem_cons.mp hq with rfl | hq
      · assumption
      · have := ha q hq; omega
    · refine List.pairwise_cons.mpr ⟨fun q hq => ?_, ih has ?_⟩
      · rcases (mem_insertUse e q as).mp hq with rfl | hq
        · omega
        · exact ha q hq
      · simpa [findUse, List.find?_eq_none] using hns

theorem mem_insertPair (p q : EventPair) (ps : List EventPair) : q ∈ insertPair p ps ↔ q = p ∨ q ∈ ps := by
  induction ps with
  | nil => simp [insertPair]
  | cons a as ih =>
    unfold insertPair
    split
    · subst_vars; simp
    · split
      · simp
      · simp [ih]; tauto

/-- The order of R167 tells pairs apart. -/
theorem rank_inj {p q : EventPair} (h : p.rank = q.rank) : p = q := by
  cases p with
  | atLane k i =>
    cases q with
    | atLane m j =>
      have hi := i.isLt
      have hj := j.isLt
      have hk : k.index = m.index := by simp only [EventPair.rank] at h; omega
      have hij : i = j := by simp only [EventPair.rank] at h; exact Fin.ext (by omega)
      subst hij
      cases k <;> cases m <;> simp [LaneEvent.index] at hk <;> rfl
    | lift m =>
      have hi := i.isLt
      cases k <;> cases m <;> simp only [EventPair.rank, LaneEvent.index, LiftEvent.index] at h <;> omega
  | lift k =>
    cases q with
    | atLane m j =>
      have hj := j.isLt
      cases k <;> cases m <;> simp only [EventPair.rank, LaneEvent.index, LiftEvent.index] at h <;> omega
    | lift m => cases k <;> cases m <;> simp [EventPair.rank, LiftEvent.index] at h <;> rfl

/-- A raised pair goes to its place in the order (R164, R167). -/
theorem pairwise_insertPair (p : EventPair) (ps : List EventPair) (h : ps.Pairwise fun a b => a.rank < b.rank) :
    (insertPair p ps).Pairwise fun a b => a.rank < b.rank := by
  induction ps with
  | nil => simp [insertPair]
  | cons a as ih =>
    obtain ⟨ha, has⟩ := List.pairwise_cons.mp h
    unfold insertPair
    split
    · exact h
    · rename_i hne
      split
      · refine List.pairwise_cons.mpr ⟨fun q hq => ?_, h⟩
        rcases List.mem_cons.mp hq with rfl | hq
        · assumption
        · have := ha q hq; omega
      · refine List.pairwise_cons.mpr ⟨fun q hq => ?_, ih has⟩
        rcases (mem_insertPair p q as).mp hq with rfl | hq
        · rcases Nat.lt_or_ge a.rank q.rank with h1 | h1
          · exact h1
          · exact absurd (rank_inj (by omega)) hne
        · exact ha q hq

/-- The ring holds at most 1,024 records (R158). -/
theorem length_ringPush (ring : List JournalRecord) (r : JournalRecord) (h : ring.length ≤ Config.ringSize) :
    (ringPush ring r).length = min (ring.length + 1) Config.ringSize := by
  unfold ringPush
  split
  · simp; omega
  · have : Config.ringSize = 1024 := rfl
    simp; omega

end Sys2Proof.Machine
end

