-- ==== Sys2Proof/Tests/Slice0.lean ====
section
/-! SUPPORT. Tests: ill-formed commands that `Instr.wf` refuses, small examples of spec/, and for every statement with
hypotheses a state and operands that meet them. -/

namespace Sys2Proof.Tests

open Sys2Proof Sys2Proof.Machine

/-! ## WellFormed: an ill-formed term for each check -/

theorem test_wf_tag : (Instr.hello 0 256).wf = false := by decide
theorem test_wf_present : (Instr.present 0 1 4294967296 0).wf = false ∧ (Instr.present 0 1 1 65536).wf = false := by decide
theorem test_wf_mask : (Instr.setMask 0 1 256).wf = false := by decide
theorem test_wf_levels : (Instr.setLevels 6 1 { Levels.cold with carrierLost := 256 }).wf = false := by decide
theorem test_wf_counts : (Instr.readCounts 6 1 256).wf = false := by decide
theorem test_wf_journal : (Instr.readJournal 6 1 4294967296 1).wf = false ∧ (Instr.readJournal 6 1 1 256).wf = false := by decide
theorem test_wf_load : (Instr.loadPass 6 1 1 0 0 1 0 1 65536).wf = false := by decide
theorem test_wf_amend : (Instr.amendPass 6 1 1 256 1 1 1 1 1).wf = false := by decide
theorem test_wf_pass_number :
    (Instr.blockPass 6 1 4294967296).wf = false ∧ (Instr.unblockPass 6 1 4294967296).wf = false ∧
      (Instr.purgePass 6 1 4294967296).wf = false ∧ (Instr.readPass 6 1 4294967296).wf = false ∧
      (Instr.quoteRefund 6 1 4294967296).wf = false := by decide
theorem test_wf_merge : (Instr.mergeUse 6 1 1 1 256).wf = false := by decide
theorem test_wf_settle : (Instr.settleRefund 6 1 1 65536).wf = false := by decide
theorem test_wf_tariff :
    (Instr.setTariff 6 1 0 { Tariff.cold with hold := 256 }).wf = false ∧ (Instr.readTariff 6 1 256).wf = false := by decide
theorem test_wf_clock : (Instr.setClock 6 1 4294967296).wf = false := by decide
theorem test_wf_day : (Instr.openDay 6 1 65536).wf = false := by decide
theorem test_wf_lift :
    (Instr.setLift 7 1 256).wf = false ∧ (Instr.setSeats 7 1 256).wf = false ∧
      (Instr.setPacing 7 1 0 { PacingSettings.cold with leadOffset := 4294967296 }).wf = false := by decide
theorem test_wf_lane :
    (Instr.openLane 7 1 256).wf = false ∧ (Instr.configureLane 7 1 0 { LaneConfig.cold with settleTime := 65536 }).wf = false := by
  decide
theorem test_wf_unknown_code : (Instr.unknownRequest 0 1 56).wf = false ∧ (Instr.unknownRequest 0 1 256).wf = false := by decide
theorem test_wf_office_wire : (Instr.frameGapExpiry 6).wf = false ∧ (Instr.byteError 6).wf = false := by decide
theorem test_wf_sample : (Instr.beamSample 0 4096).wf = false := by decide
theorem test_wf_credit_number :
    (Instr.creditLifeExpiry 0 0).wf = false ∧ (Instr.creditLifeExpiry 0 65536).wf = false := by decide

/-! ## Frames (R170 to R172, R178) -/

/-- The published check value of the CRC of R170 (x^16 + x^12 + x^5 + 1, initial 0xFFFF) over "123456789". -/
theorem test_crc_check_value : crc [0x31, 0x32, 0x33, 0x34, 0x35, 0x36, 0x37, 0x38, 0x39] = 0x29B1 := by
  decide +kernel

/-- R178: PRESENT is pass number 4 bytes, check word 2, most significant byte first (R170). -/
theorem test_decode_present :
    requestOf 2 1 9 [0x00, 0x01, 0x02, 0x03, 0x12, 0x34] = .present 2 9 66051 0x1234 := by decide

/-- R178: OPEN DAY is code 28, day number 2 bytes. -/
theorem test_decode_open_day : requestOf 6 28 1 [0x00, 0xF1] = .openDay 6 1 241 := by decide

/-- R178: SET LIFT is code 48, one byte, 1 for STOPPED. -/
theorem test_decode_set_lift : requestOf 7 48 1 [0x01] = .setLift 7 1 1 := by decide

/-- R178: SET MASK is code 5, one byte. -/
theorem test_decode_set_mask : requestOf 7 5 200 [0x07] = .setMask 7 200 7 := by decide

/-- R172: the code is one of R178 and the length differs from that request's body length. -/
theorem test_bad_length : frameRequest 6 (frameOf requestMarker 28 1 [0x00]) = none := by decide

/-- spec/opcode_table.json gives no row any bits (log 4). -/
theorem test_no_word_spells_a_command : decodeTableWord 0 0 = none ∧ State.reset.withFetchWord 8 0 = State.reset := by decide

/-! ## Worked figures -/

/-- Chapter 8, case 1: P 41,250, D 6, F 2, H 1, R 9,500, B 9,000, E 1,500, Q 500. -/
def caseOne : Pass :=
  { number := 1, check := 0, cls := 2, days := 6, paid := 41250, firstDay := 1, lastDay := 300, state := .active
    overUse := false, generation := 3, lastPassage := none, holdEnd := none, settlement := none
    uses := [⟨238, .full, .localAt 0, .final⟩, ⟨239, .full, .merged, .final⟩, ⟨240, .half, .localAt 1, .final⟩] }

def caseTariff : Tariff := { rate := 9500, halfMinute := 720, fraction := 9000, fee := 1500, quantum := 500, hold := 5 }

theorem test_quote_case_one :
    quoteOf caseOne caseTariff =
      { cls := 2, full := 2, half := 1, charge := 23750, residue := 17500, proRata := 24062, afterFraction := 15750
        afterFee := 14250, refund := 14000, overUse := false, generation := 3 } := by decide

/-- Chapter 8, case 2: the same pass unused. -/
theorem test_quote_case_two : (quoteOf { caseOne with uses := [] } caseTariff).refund = 35500 := by decide

/-- Chapter 8, limit cases "fee above N" and "pro-rata below residue". -/
theorem test_quote_limits :
    (quoteOf { caseOne with paid := 5000, days := 2, uses := [⟨1, .full, .merged, .final⟩] }
      { caseTariff with rate := 2000, fraction := 5000, quantum := 100 }).afterFee = 0 ∧
    (quoteOf caseOne { caseTariff with rate := 3000 }).refund = 20000 := by decide

/-- R77, the example: settle time 5, unlock width 12,000, beam levels 3,000, 2,000 and 2,500. -/
theorem test_configure_example :
    let c := clampConfig { LaneConfig.cold with
      settleTime := 5, unlockWidth := 12000, brokenLevel := 3000, clearLevel := 2000, faultLevel := 2500 }
    (c.settleTime, c.unlockWidth, c.brokenLevel, c.clearLevel, c.faultLevel) = (10, 10000, 3000, 3001, 3002) := by decide

/-- R125, the example: interval min 70,000, interval max 50,000, nominal 10,000. -/
theorem test_pacing_example :
    let p := clampPacing { PacingSettings.cold with intervalMin := 70000, intervalMax := 50000, nominal := 10000 }
    (p.intervalMin, p.intervalMax, p.nominal) = (60000, 60001, 60000) := by decide

/-- R130 and R134, the examples: an estimate of 8,050 and its cutoff of 4,830 ms at 60 percent. -/
theorem test_estimate_and_cutoff :
    ({ Pacer.cold with history := [8000, 8200, 7900, 8100] } : Pacer).estimate = 8050 ∧
      ({ Pacer.cold with history := [8000, 8200, 7900, 8100] } : Pacer).cutoff = 4830 := by decide

/-- Chapter 3, the example of R43: half-day minute 720 at 11:59:59.999 and at 12:00. -/
theorem test_half_day_minute :
    let s : State := { State.reset with tariffs := Eight.all caseTariff, clockSet := true }
    firstUseKind { s with clock := 43199999 } caseOne = .full ∧ firstUseKind { s with clock := 43200000 } caseOne = .half := by
  decide

/-! ## Small states -/

/-- A pass of class 0 with three days, valid from day 1 to day 300. -/
def pass (n : Nat) (uses : List DayUse) : Pass :=
  { number := n, check := 7, cls := 0, days := 3, paid := 4000, firstDay := 1, lastDay := 300, state := .active
    overUse := false, generation := 3, lastPassage := none, holdEnd := none, uses := uses, settlement := none }

/-- A lane in service with an empty queue and the rotor at HOME. -/
def lane : LaneUnit :=
  { LaneUnit.atStart LaneConfig.cold 300 LaneCounts.zero with
    gate := .ready, sensorPower := true, tracker := .home, beam := some .clear, silenceEnd := some 9000000 }

/-- Day 241 is OPEN, the lift RUNNING in PACED mode, lane 2 READY; passes 1 to 4 are loaded. -/
def open241 : State :=
  { State.reset with
    clockSet := true, clock := 7090000, day := .opened, lastOpened := 241, free := 131060
    passes := [pass 1 [], pass 2 [⟨241, .full, .merged, .final⟩], pass 3 [], pass 4 []]
    pacer := { Pacer.cold with lift := .running, watchRunning := true, watchFrom := 7080000, lastEdge := some 7080000 }
    lanes := (Six.all (LaneUnit.atStart LaneConfig.cold 1 LaneCounts.zero)).set 2 lane }

/-- A credit of lane 2 in a state, with the times its state needs. -/
def credit (n pass : Nat) (st : CreditState) : Credit :=
  { number := n, lane := 2, pass := pass, grantedAt := 7090000, firstUse := none, state := st, releasedAt := none, slot := none
    earliestUnlock := if st = .holding then none else some 7100000
    unlockStart := none
    unlockEnd := if st = .unlocked ∨ st = .passing then some 7104000 else none
    lifeEnd := if st = .holding then some 7120000 else none }

/-- Lane 2 with a queue and a gate state. -/
def queued (gate : GateState) (queue : List Credit) : State :=
  open241.setLane 2 { lane with gate := gate, queue := queue }

/-- The open rotation of a PASSING head. -/
def rotation (kind : RotationKind) : Rotation :=
  { kind := kind, leaveAt := 7101000, midAt := none, beamEntries := 1, endPassed := false, committed := false }

/-- Lane 2 with the rotor away. -/
def away (gate : GateState) (t : Tracker) (r : Rotation) (queue : List Credit) : State :=
  open241.setLane 2 { lane with
    gate := gate, queue := queue, tracker := t, rotation := some r, passageFrom := some 7101000, unlockOut := true }

/-- Credit 300 of pass 1, with a first use, under way to its commit (chapter 6, "lane 2 on day 241"). -/
def passing300 : State :=
  State.modPass
    (away .passing .awayFirst (rotation (.credited 300))
      [{ credit 300 1 .passing with firstUse := some .full, slot := some 5510 }, credit 301 2 .holding])
    1 fun p => { p with uses := [⟨241, .full, .localAt 2, .tentative⟩] }

/-- The next state of a result; the reset state where there is none. -/
def after : Result → State
  | .next s => s
  | .fault _ => State.reset
  | .refused _ => State.reset

/-! ## One step each, with figures of the spec's sequences -/

/-- Chapter 6: the commit at 7,101,700 sets the hold end to 7,401,700 and appends PASSAGE with slot 5,510 and a rotation
time of 700 ms, then CREDIT ENDED. -/
theorem test_mid_commits :
    let t := after (exec (.mid 2) { passing300 with clock := 7101700 })
    (t.findPass 1).bind Pass.holdEnd = some 7401700 ∧ (t.lane 2).gate = .holding ∧
      t.journal.map JournalRecord.body =
        [.start .cold .powerUp 0 0, .passage 2 1 300 (some .full) (some 5510) 700, .creditEnded 2 1 300 .passed false] := by
  decide

/-- Chapter 6: the return at 7,102,300 with 2 beam entries after a committed MID counts one TAILGATE rider. -/
theorem test_return_counts_tailgate :
    let r : Rotation := { rotation (.credited 300) with midAt := some 7101700, beamEntries := 2, committed := true }
    let t := after (exec (.returnToHome 2) (away .holding .awaySecond r [credit 301 2 .holding]))
    (t.lane 2).counts.tailgates = 1 ∧ (t.lane 2).counts.forced = 0 ∧ (t.lane 2).tracker = .home := by decide

/-- Chapter 6: the leave at 7,101,000 with a BROKEN beam: CREDITED, credit 300, beam entries 1. -/
theorem test_leave_is_credited :
    let s := open241.setLane 2 { lane with gate := .unlocked, queue := [credit 300 1 .unlocked], beam := some .broken }
    let t := after (exec (.rotorLeave 2) { s with clock := 7101000 })
    (t.lane 2).rotation = some (rotation (.credited 300)) ∧ (t.lane 2).gate = .passing := by decide

/-- R67: from 65,535 the next credit number advances to 1. -/
theorem test_credit_number_wraps :
    let s := open241.setLane 2 { lane with nextCredit := 65535 }
    ((after (exec (.present 2 1 1 7) s)).lane 2).nextCredit = 1 := by decide

/-- R26: a first use places one TENTATIVE entry dated the current day, with the lane as its origin. -/
theorem test_grant_places_an_entry :
    ((after (exec (.present 2 1 1 7) open241)).findPass 1).map Pass.uses = some [⟨241, .full, .localAt 2, .tentative⟩] := by
  decide

/-- R58: a wrong check word is a counted deny. -/
theorem test_deny_is_counted :
    ((after (exec (.present 2 1 1 8) open241)).lane 2).counts.denies.checkMismatch = 1 := by decide

/-- R136: an accepted edge opens a slot and releases the waiting head into it, whose unlock starts at once with no lead
offset. -/
theorem test_edge_releases :
    let t := after (exec .carrierEdge { queued .holding [credit 300 1 .holding] with clock := 7100000 })
    (t.lane 2).gate = .unlocked ∧ (t.lane 2).unlockOut = true ∧ t.pacer.slot.map Slot.released = some 1 := by decide

/-- R5: a generation wraps from 65,535 to 0. -/
theorem test_generation_wraps :
    let s := open241.modPass 1 fun p => { p with generation := 65535 }
    ((after (exec (.amendPass 6 1 1 0 0 0 0 0 0) s)).findPass 1).map Pass.generation = some 0 := by decide

/-- R12: the reservation cannot grow beyond the free count. -/
theorem test_pool_full :
    (after (exec (.loadPass 6 1 9 7 0 30 0 1 1) { open241 with free := 29 })).passes.length = 4 := by decide

/-- Chapter 10, "a busy console link": the BUSY answer for tag 10 replaces the one for tag 8. -/
theorem test_busy_replaced :
    let s := State.modLink open241 consoleLink fun e => { e with
      slot := some (56, 7)
      output := [{ code := 56, tag := 7, answer := .cleared, begun := true },
        { code := 51, tag := 8, answer := .busy 7 56, begun := false }] }
    ((after (exec (.readCounts 7 10 255) s)).link consoleLink).output.map (fun a => (a.tag, a.answer)) =
      [(7, .cleared), (10, .busy 7 56)] := by decide

/-- Chapter 10, "a busy console link": READ LANE of a full queue is 254 data bytes, in frames of 246 and 24 bytes. -/
theorem test_read_lane_of_a_full_queue :
    let report := ((queued .holding [credit 300 1 .holding, credit 301 2 .holding]).lane 2).report
    report.bytes.length = 254 ∧
      ({ code := 56, tag := 7, answer := .lane report, begun := false } : OutAnswer).frames.map List.length = [246, 24] := by
  decide +kernel

/-- R101: CLOSE LANE with the leave of the UNLOCKED head waiting keeps the lane CLOSING; without it the lane goes OFF (R83). -/
theorem test_close_lane_before_the_leave :
    let s := queued .unlocked [credit 300 1 .unlocked]
    let close := Instr.closeLane 7 1 2
    ((after (step { s with pending := [close, .rotorLeave 2] })).lane 2).gate = .closing ∧
      ((after (exec close s)).lane 2).gate = .off := by decide

/-- R85, 00_scope.md "Counts": beam entries at their top stay there. -/
theorem test_beam_entries_saturate :
    let s := away .fault .awayFirst { rotation .forced with beamEntries := 4294967295 } []
    (((after (exec (.beamSample 2 100) s)).lane 2).rotation.map Rotation.beamEntries) = some 4294967295 := by decide

/-- R170: the cause count of a fault record takes 4 bytes. -/
theorem test_fault_record_bytes :
    faultBytes (some { first := .rotorStuck, faultAt := 1, later := none, count := 258 }) =
      [1, 1, 0, 0, 0, 0, 0, 1, 255, 0, 0, 1, 2] := by decide

/-- R166, R162: LANE READY (level 2) drives a line whose mask is 1, and a mask of 2 lets it fall. -/
theorem test_mask_drops_the_line :
    let s := open241.raise (.atLane .laneReady 2)
    (s.link consoleLink).attention = true ∧ ((after (exec (.setMask 7 1 2) s)).link consoleLink).attention = false := by decide

/-- R98: the silence expiry withdraws what is not PASSING and counts it in its record. -/
theorem test_silence :
    let t := after (exec (.silenceExpiry 2) (queued .holding [credit 300 1 .holding, credit 301 2 .holding]))
    (t.lane 2).queue = [] ∧ (t.lane 2).link = .silent ∧
      t.journal.getLast?.map JournalRecord.body = some (.linkSilent 2 2) := by decide

/-- R183: a warm start counts the discarded credit as withdrawn and removes its TENTATIVE entry with a rise of the
generation. -/
theorem test_warm_start :
    let t := after (exec .resetReleased { passing300 with run := .heldReset })
    (t.lane 2).counts.withdrawn = 2 ∧ (t.findPass 1).map (fun p => (p.uses, p.generation)) = some ([], 4) ∧ t.day = .closed := by
  decide

/-! ## States and operands that meet the hypotheses of each statement

Each theorem names its statement. The conjuncts are the hypotheses of its clauses, at the ends of their ranges where they
have any. -/

theorem witness_StepRunsTheFrontCommand : { open241 with pending := [.carrierEdge] }.pending = [.carrierEdge] := rfl

theorem witness_EmptyQueueLetsOneMillisecondPass :
    (State.reset.pending = [] ∧ State.reset.run = .running) ∧
      ({ State.reset with run := .off false }.pending = [] ∧ { State.reset with run := .off false }.run ≠ .running) := by decide

theorem witness_ResetAndPowerStopThePart :
    State.reset.run = .running ∧ (RunState.heldReset ≠ .running ∧ ∀ b, Instr.carrierEdge ≠ .powerUp b) ∧
      ({ State.reset with run := .off true } : State).run = .off true ∧
      ({ State.reset with run := .off false } : State).run = .off false ∧
      ({ State.reset with run := .heldReset } : State).run = .heldReset ∧
      ({ State.reset with run := .heldPowerUp true } : State).run = .heldPowerUp true := by decide

/-- A link whose request slot is IN PROGRESS. -/
def busyAt (l : LinkNo) : State := open241.modLink l fun e => { e with slot := some (30, 4) }

/-- A lane link whose driver is enabled. -/
def sendingAt (l : LinkNo) : State := open241.modLink l fun e => { e with driver := true }

theorem witness_RequestDuringAnotherIsBusy :
    requestParts (.readDay 6 5) = some (6, 30, 5, []) ∧ (busyAt 6).run = .running ∧ ((busyAt 6).link 6).driver = false ∧
      ((busyAt 6).link 6).slot = some (30, 4) ∧ requestParts (.hello 3 1) = some (3, 3, 1, []) ∧
      ((sendingAt 3).link 3).driver = true ∧ (sendingAt 3).run = .running := by decide

theorem witness_WrongRoleAndUnknownCodeAreAnswered :
    (∀ c ∈ [((6 : LinkNo), 1), (7, 3), (5, 6), (0, 8), (5, 16), (7, 32), (6, 48), (0, 56)],
      isRequestCode c.2 = true ∧
        ((c.2 ≤ 3 ∧ 6 ≤ c.1.val) ∨ (6 ≤ c.2 ∧ c.2 ≤ 8 ∧ c.1.val < 6) ∨ (16 ≤ c.2 ∧ c.2 ≤ 32 ∧ c.1.val ≠ 6) ∨
          (48 ≤ c.2 ∧ c.1.val ≠ 7))) ∧
      requestParts (.hello 6 1) = some (6, 3, 1, []) ∧ Takes open241 6 ∧
      (∀ code ∈ [0, 9, 15, 33, 47, 57, 255], isRequestCode code = false) ∧ Takes open241 0 := by
  unfold Takes; decide

theorem witness_RequestFrameIsReadBack :
    let i := Instr.loadPass 6 255 4294967295 65535 255 255 4294967295 65535 65535
    i.wf = true ∧ (requestFrame i).isSome = true ∧
      ((255 : Nat) < 256 ∧ isRequestCode 255 = false ∧ (List.replicate 240 0xD3#8).length ≤ 240) := by decide +kernel

theorem witness_BytesOfAFrameTakeItsRequest :
    (Instr.readLift 7 1).wf = true ∧ (requestFrame (.readLift 7 1)).isSome = true ∧ (7 : LinkNo) ≠ officeLink ∧
      open241.run = .running ∧ (open241.link 7).driver = false ∧ (open241.link 7).receiver = .idle ∧
      ((Instr.closeDay 6 1).wf = true ∧ (requestFrame (.closeDay 6 1)).isSome = true ∧
        (open241.link officeLink).driver = false ∧ (open241.link officeLink).receiver = .idle ∧
        (open241.link officeLink).output = []) ∧
      ((Instr.unknownRequest 7 1 9).wf = true ∧ (List.replicate 240 0#8).length ≤ 240) := by decide +kernel

/-- A link that has taken these bytes of a frame. -/
def receivingAt (l : LinkNo) (bytes : List Byte) : State :=
  open241.modLink l fun e => { e with receiver := .receiving bytes 7090000 }

theorem witness_OneByteAtAUartReceiver :
    (3 : LinkNo) ≠ officeLink ∧ open241.run = .running ∧ (open241.link 3).driver = false ∧
      (open241.link 3).receiver = .idle ∧
      ((receivingAt 3 [0xD3, 1, 2]).link 3).receiver = .receiving [0xD3, 1, 2] 7090000 ∧
      240 < (241#8 : Byte).toNat ∧ (240#8 : Byte).toNat ≤ 240 ∧
      (let before : List Byte := [0xD3, 53, 1, 1]
       4 ≤ before.length ∧ (before.getD 3 0#8).toNat ≤ 240 ∧ before.length < 5 + (before.getD 3 0#8).toNat) ∧
      (let before : List Byte := [0xD3, 53, 1, 1, 2, 0]
       4 ≤ before.length ∧ (before.getD 3 0#8).toNat ≤ 240 ∧ before.length = 5 + (before.getD 3 0#8).toNat ∧
        frameGood (before ++ [0]) = false) ∧
      (let before : List Byte := (frameOf requestMarker 3 1 []).take 5
       4 ≤ before.length ∧ before.length = 5 + (before.getD 3 0#8).toNat ∧
        frameRequest 3 (before ++ (frameOf requestMarker 3 1 []).drop 5) = some (.hello 3 1)) ∧
      ((sendingAt 3).link 3).driver = true := by decide +kernel

theorem witness_PartialFramesEnd :
    open241.run = .running ∧ ((receivingAt 7 [0xD3]).link 7).receiver = .receiving [0xD3] 7090000 ∧
      (7 : LinkNo) ≠ officeLink ∧ (open241.link 7).receiver = .idle := by decide

/-- A link with one answer queued. -/
def answering (l : LinkNo) (a : OutAnswer) : State :=
  open241.modLink l fun e => { e with slot := some (a.code, a.tag), output := [a] }

/-- An answer of 21 data bytes. -/
def dayAnswer (begun : Bool) : OutAnswer := { code := 30, tag := 4, answer := dayReport open241, begun := begun }

theorem witness_UartAnswersLeaveInOrder :
    (3 : LinkNo) ≠ officeLink ∧ open241.run = .running ∧ (open241.link 3).output = [] ∧
      ((answering 3 (dayAnswer false)).link 3).output = [dayAnswer false] ∧ (dayAnswer false).begun = false ∧
      (dayAnswer true).begun = true := by decide

/-- CLEAR ALL's answer heads the office link's queue, its first bytes clocked out (8 bytes in all, R170, R171). -/
def clearing (readPos : Nat) : State :=
  { answering officeLink { code := 32, tag := 1, answer := .cleared, begun := true } with
    office := { readPos := readPos, fillerOpen := false, dataOut := 0#8 } }

theorem witness_OfficeAnswersAreClockedOut :
    let s := answering officeLink (dayAnswer false)
    (open241.link officeLink).output = [] ∧
      ((s.link officeLink).output = [dayAnswer false] ∧ s.office.fillerOpen = false ∧
        s.office.readPos + 1 < (dayAnswer false).bytes.length ∧
        (dayAnswer false).bytes.length ≤
          ({ s.office with readPos := (dayAnswer false).bytes.length - 1 } : OfficePort).readPos + 1 ∧
        (dayAnswer false).answer ≠ .cleared) ∧
      (s.run = .running ∧ (∀ a ∈ (s.link officeLink).output.head?, a.answer ≠ .cleared) ∧
        (s.link officeLink).receiver = .idle) ∧
      (((clearing 6).link officeLink).output.head?.all fun a =>
        decide (a.answer = .cleared ∧ (clearing 6).office.readPos + 1 < a.bytes.length)) = true ∧
      ((receivingAt 6 [0xD3, 1, 2]).link officeLink).receiver = .receiving [0xD3, 1, 2] 7090000 ∧
      (let before : List Byte := (frameOf requestMarker 29 1 []).take 5
       ((receivingAt 6 before).link officeLink).receiver = .receiving before 7090000 ∧
        4 ≤ before.length ∧ before.length = 5 + (before.getD 3 0#8).toNat ∧
        frameRequest officeLink (before ++ (frameOf requestMarker 29 1 []).drop 5) = some (.closeDay 6 1) ∧
        frameGood (before ++ [0]) = false) := by decide +kernel

theorem witness_AtMostOneFillerByte :
    let s : State := { answering officeLink (dayAnswer false) with
      office := { OfficePort.atStart with fillerOpen := true } }
    s.run = .running ∧ (s.link officeLink).receiver = .idle ∧ (0#8 : Byte) ≠ 0xD3#8 ∧
      (s.link officeLink).output = [dayAnswer false] ∧ s.office.fillerOpen = true ∧ s.office.readPos = 0 := by decide

theorem witness_OfficeAnswerEvents :
    open241.run = .running ∧ (open241.link officeLink).output = [] ∧
      ((answering officeLink (dayAnswer false)).link officeLink).output = [dayAnswer false] ∧
      (dayAnswer false).begun = false ∧ (dayAnswer false).answer ≠ .cleared := by decide

theorem witness_SegmentsCarryTheWholeAnswer :
    (dayAnswer false).frames[0]?.isSome = true ∧ 0 + 1 = (dayAnswer false).frames.length ∧
      (((queued .holding [credit 300 1 .holding, credit 301 2 .holding]).lane 2).report.queue.length = 2 ∧
        (open241.lane 2).report.queue.length = 0) := by decide +kernel

theorem witness_RaisedPairEntersTheLinksInScope :
    inScope (.atLane .laneReady 2) 3 = false ∧ inScope (.atLane .laneReady 2) 2 = true ∧ inScope (.lift .dayState) 0 = true ∧
      (open241.link 3).pairs.Pairwise (fun q r => q.rank < r.rank) := by decide

theorem witness_CreditEndHasItsEffects :
    ((passing300.lane 2).queue[0]?).isSome = true ∧ ((passing300.lane 2).queue[1]?).isSome = true ∧
      (passing300.lane 2).gate.inService = true ∧ ((queued .closing [credit 300 1 .passing]).lane 2).gate = .closing ∧
      ((queued .fault [credit 300 1 .passing]).lane 2).gate = .fault ∧ CreditOutcome.passed ≠ .withdrawn .start := by decide

theorem witness_CreditEndHasItsEffects_gate :
    GateState.ready.inService = true ∧ GateState.closing.inService = false ∧ (credit 300 1 .holding).state = .holding ∧
      (credit 300 1 .released).state = .released ∧ (credit 300 1 .unlocked).state = .unlocked ∧
      (credit 300 1 .passing).state = .passing := by decide

theorem witness_WithdrawalsRunHeadFirst :
    (open241.lane 2).queue = [] ∧ ((queued .holding [credit 300 1 .holding]).lane 2).queue = [credit 300 1 .holding] ∧
      ((queued .unlocked [credit 300 1 .unlocked, credit 301 2 .holding]).lane 2).queue =
        [credit 300 1 .unlocked, credit 301 2 .holding] := by decide

/-- A full Pass Table: 16,384 records. -/
def fullTable : State := { open241 with passes := (List.range 16384).map fun n => pass (n + 10) [] }

theorem witness_LoadPassChecksThenCreates :
    Takes open241 officeLink ∧ (∃ p ∈ open241.passes, p.number = 4) ∧ (∀ p ∈ open241.passes, p.number ≠ 4294967294) ∧
      open241.passes.length < 16384 ∧ (30 : Nat) ≤ open241.free ∧ ({ open241 with free := 29 } : State).free < 30 ∧
      ((1 : Nat) ≤ 4294967294 ∧ (7 : Nat) ≤ 7 ∧ (30 : Nat) ≤ 30 ∧ (1048575 : Nat) ≤ 1048575 ∧ (365 : Nat) ≤ 1 + 364) := by
  unfold Takes; decide

theorem witness_LoadPassChecksThenCreates_full :
    16384 ≤ fullTable.passes.length ∧ ∀ p ∈ fullTable.passes, p.number ≠ 1 := by
  refine ⟨by simp [fullTable], ?_⟩
  intro p hp
  simp only [fullTable, List.mem_map] at hp
  obtain ⟨k, -, rfl⟩ := hp
  simp only [pass]
  omega

theorem witness_AmendPassChecksThenReplaces :
    Takes open241 officeLink ∧ open241.findPass 9 = none ∧
      open241.findPass 2 = some (pass 2 [⟨241, .full, .merged, .final⟩]) ∧
      (pass 2 [⟨241, .full, .merged, .final⟩]).state ≠ .surrendered ∧
      (0 < (pass 2 [⟨241, .full, .merged, .final⟩]).uses.length) ∧
      ((31 : Nat) < 32 ∧ (31 : Nat).testBit 4 = true ∧ (2 : Nat).testBit 1 = true ∧ (2 : Nat).testBit 0 = false) ∧
      ({ open241 with free := 26 } : State).free + 3 < 30 ∧ (30 : Nat) ≤ ({ open241 with free := 27 } : State).free + 3 ∧
      ¬ ((1 : Nat) ≤ 366 ∧ (366 : Nat) ≤ 1 + 364) ∧ ((1 : Nat) ≤ 365 ∧ (365 : Nat) ≤ 1 + 364) := by
  unfold Takes; decide

theorem witness_PassRequestsCheckTheNumber :
    Takes open241 officeLink ∧ ((0 : Nat) = 0 ∧ (4294967294 : Nat) < 4294967295) ∧
      (¬ ((1 : Nat) = 0 ∨ (4294967294 : Nat) < 1) ∧ ∀ p ∈ open241.passes, p.number ≠ 4294967294) := by
  unfold Takes; decide

/-- Pass 1 settled. -/
def settled : State :=
  open241.modPass 1 fun p => { p with
    state := .surrendered
    settlement := some { refund := 4000, settleDay := 241, full := 0, half := 0, generation := 3 } }

theorem witness_BlockUnblockAndPurgePass :
    Takes open241 officeLink ∧ (open241.findPass 1).isSome = true ∧ (∀ c ∈ open241.credits, c.pass ≠ 1) ∧
      (settled.findPass 1).map Pass.state = some .surrendered ∧
      (queued .holding [credit 300 1 .holding, credit 301 2 .holding]).creditOf 2 = some (2, 1, credit 301 2 .holding) ∧
      (queued .unlocked [credit 300 1 .unlocked]).creditOf 1 = some (2, 0, credit 300 1 .unlocked) := by
  unfold Takes; decide

theorem witness_MergeUseOutsideTheList :
    Takes open241 officeLink ∧ ¬ ((2 : Nat) ≤ 1) ∧ open241.findPass 9 = none ∧ open241.findPass 1 = some (pass 1 []) ∧
      ¬ ((242 : Nat) ≤ open241.lastOpened) ∧ ((1 : Nat) ≤ 241 ∧ 241 ≤ open241.lastOpened ∧ (241 : Nat) ≤ 300) ∧
      (settled.findPass 1).map Pass.state = some .surrendered := by
  unfold Takes; decide

theorem witness_MergeUseMergesTheDay :
    Takes open241 officeLink ∧ (open241.findPass 1).map Pass.state = some .active ∧ open241.lastOpened = 241 ∧
      findUse 241 [⟨241, .half, .merged, .final⟩] = some ⟨241, .half, .merged, .final⟩ ∧
      findUse 241 [⟨241, .full, .localAt 2, .tentative⟩] = some ⟨241, .full, .localAt 2, .tentative⟩ ∧
      findUse 240 (pass 2 [⟨241, .full, .merged, .final⟩]).uses = none ∧
      (pass 2 [⟨241, .full, .merged, .final⟩]).uses.length < (pass 2 []).days ∧
      (let full := pass 2 [⟨1, .full, .merged, .final⟩, ⟨2, .full, .merged, .final⟩, ⟨3, .half, .merged, .final⟩]
       findUse 241 full.uses = none ∧ full.days ≤ full.uses.length) := by
  unfold Takes; decide

theorem witness_RefundIsBoundedAndFinal :
    (1 ≤ caseTariff.quantum ∧ caseTariff.fraction ≤ 10000) ∧ (1 ≤ (1 : Nat) ∧ (10000 : Nat) ≤ 10000) ∧
      (∃ t, exec (.settleRefund 6 1 1 3) open241 = .next t ∧ (t.findPass 1).bind Pass.settlement ≠ none) ∧
      (∃ t, exec (.mergeUse 6 1 1 241 0) settled = .next t ∧ t.findPass 1 ≠ none) :=
  ⟨by decide, by decide, ⟨_, rfl, by decide⟩, ⟨_, rfl, by decide⟩⟩

theorem witness_QuoteThenSettle :
    Takes open241 officeLink ∧ open241.findPass 1 = some (pass 1 []) ∧ (pass 1 []).cls = (0 : Fin 8).val ∧
      (∀ c ∈ open241.credits, c.pass ≠ 1) ∧ (pass 1 []).generation = 3 ∧ open241.lastOpened ≠ 0 ∧
      ({ open241 with lastOpened := 0 } : State).lastOpened = 0 ∧ ((settled.findPass 1).bind Pass.settlement).isSome = true ∧
      (queued .passing [credit 300 1 .passing]).creditOf 1 = some (2, 0, credit 300 1 .passing) := by
  unfold Takes; decide

theorem witness_SetTariffThenReadTariff :
    Takes State.reset officeLink ∧ State.reset.day = .closed ∧ open241.day ≠ .closed ∧ (7 : Fin 8).val = 7 ∧
      (let t : Tariff := { rate := 65535, halfMinute := 1440, fraction := 10000, fee := 65535, quantum := 1000, hold := 60 }
       t.rate ≤ 65535 ∧ t.halfMinute ≤ 1440 ∧ t.fraction ≤ 10000 ∧ t.fee ≤ 65535 ∧ 1 ≤ t.quantum ∧ t.quantum ≤ 1000 ∧
        t.hold ≤ 60) ∧
      (65535 < (65536 : Nat) ∧ 1440 < (1441 : Nat) ∧ 10000 < (10001 : Nat) ∧ 1000 < (1001 : Nat) ∧ 60 < (61 : Nat)) := by
  unfold Takes; decide

theorem witness_SetClockMakesTheTimeOfDay :
    Takes State.reset officeLink ∧ State.reset.day = .closed ∧ open241.day ≠ .closed ∧ (86400000 : Nat) ≤ 86400000 ∧
      (86399999 : Nat) < 86400000 := by
  unfold Takes; decide

/-- Day 241 has been closed; the clock is set. -/
def closed241 : State := { open241 with day := .closed }

theorem witness_OpenDayOpensOrReopens :
    Takes closed241 officeLink ∧ closed241.day = .closed ∧ closed241.clockSet = true ∧ State.reset.clockSet = false ∧
      State.reset.day = .closed ∧ open241.day ≠ .closed ∧ 240 < closed241.lastOpened ∧ 241 = closed241.lastOpened ∧
      closed241.lastOpened < 65535 := by
  unfold Takes; decide

theorem witness_CloseDayEndsAdmission :
    let s := queued .unlocked [credit 300 1 .unlocked, credit 301 2 .holding]
    Takes s officeLink ∧ s.day = .opened ∧ closed241.day = .closed ∧ ({ s with day := .closing } : State).day = .closing ∧
      (s.lane 2).queue.filter Credit.notUnlocked ≠ [] ∧ (s.lane 0).queue.filter Credit.notUnlocked = [] ∧
      (s.lane 2).gate.inService = true := by
  unfold Takes; decide

theorem witness_ReadsReportWhatIsHeld :
    Takes open241 officeLink ∧ Takes open241 consoleLink ∧ Takes open241 5 ∧ open241.findPass 1 = some (pass 1 []) ∧
      ((5 : LinkNo).val < 6 ∧ 6 ≤ officeLink.val ∧ 6 ≤ consoleLink.val) := by
  unfold Takes; decide

theorem witness_CreditReferenceFindsTheCredit :
    (queued .passing [credit 300 1 .passing]).creditOf 1 = some (2, 0, credit 300 1 .passing) ∧ open241.creditOf 1 = none := by
  decide

theorem witness_ReadJournalPlacesTheStart :
    Takes open241 officeLink ∧ (4294967295 : Nat) < 4294967296 ∧ (16 : Nat) ≤ 16 ∧ 16 < (17 : Nat) ∧
      open241.journal[0]?.map JournalRecord.seq = some 1 ∧ open241.nextSeq = 2 ∧
      (0 ≠ open241.nextSeq ∧ ∀ r ∈ open241.journal, r.seq ≠ 0) := by
  unfold Takes; decide

theorem witness_ReadJournalPlacesTheStart_law : JournalLaw open241 :=
  ⟨by decide, by decide, by decide, by decide⟩

theorem witness_EventStatusRequests :
    Takes open241 0 ∧ Takes open241 officeLink ∧ 6 ≤ officeLink.val ∧ 7 < (8 : Nat) ∧
      (let v := { Levels.cold with carrierLost := 8 }
       [v.passage, v.backout, v.creditEnded, v.laneReady, v.untaggedRider, v.beamBlocked, v.linkSilent, v.laneFault,
         v.carrierRegained, v.dayState, v.carrierLost][10]? = some 8) := by
  unfold Takes; decide

theorem witness_PresentIsTurnedAwayByTheFirstCheck :
    Takes open241 (linkOfLane 2) ∧ Takes open241 (linkOfLane 0) ∧ (open241.lane 0).gate.inService = false ∧
      (open241.lane 2).gate.inService = true ∧ open241.day = .opened ∧ closed241.day = .closed ∧
      ({ open241 with day := .closing } : State).day = .closing ∧
      ((queued .holding [credit 300 1 .holding, credit 301 2 .holding]).lane 2).queue =
        credit 300 1 .holding :: [credit 301 2 .holding] ∧
      open241.findPass 9 = none ∧ open241.findPass 1 = some (pass 1 []) ∧ (8 : Nat) ≠ (pass 1 []).check ∧
      (settled.findPass 1).map Pass.state = some .surrendered ∧
      (({ open241 with lastOpened := 0 } : State).lastOpened < (pass 1 []).firstDay) ∧
      ((pass 1 []).lastDay < ({ open241 with lastOpened := 301 } : State).lastOpened) ∧
      (queued .holding [credit 300 1 .holding]).creditOf 1 = some (2, 0, credit 300 1 .holding) ∧
      ({ pass 1 [] with holdEnd := some 7090001 }.holdEnd = some 7090001 ∧ open241.clock < 7090001) ∧
      (findUse 241 { pass 1 [] with days := 0 }.uses = none ∧ { pass 1 [] with days := 0 }.uses.length = 0) := by
  unfold Takes; decide

theorem witness_PresentGrantsACredit :
    Takes open241 (linkOfLane 2) ∧ (open241.lane 2).gate.inService = true ∧ open241.day = .opened ∧
      (open241.lane 2).queue.length < 2 ∧ open241.findPass 1 = some (pass 1 []) ∧ (pass 1 []).state = .active ∧
      (pass 1 []).firstDay ≤ open241.lastOpened ∧ open241.lastOpened ≤ (pass 1 []).lastDay ∧
      (∀ c ∈ open241.credits, c.pass ≠ 1) ∧ (pass 1 []).holdEnd = none ∧ (pass 1 []).uses.length ≠ (pass 1 []).days := by
  unfold Takes; decide

theorem witness_OffersReleaseHeadCredits :
    let k : Slot :=
      { number := 1, openedAt := 7090000, capacity := 1, released := 0, cutoffEnd := 7090001, earliestUnlock := 7090000 }
    let s := queued .holding [credit 300 1 .holding]
    (s.lane 2).queue = credit 300 1 .holding :: [] ∧ s.pacer.mode = .paced ∧
      ({ s.pacer with mode := .free }.mode = .free ∧ s.pacer.lift = .running ∧ (s.lane 2).tracker = .home) ∧
      ({ s.pacer with slot := some k }.slot = some k ∧ s.pacer.tracking = .tracking ∧ s.clock < k.cutoffEnd ∧
        k.released < k.capacity) ∧
      (∀ j, ((s.lane j).queue.head?.all fun d =>
        decide (d.grantedAt = 7090000 ∧ (2 : LaneNo).val ≤ j.val)) = true) := by decide

theorem witness_LaneRequestsNameALane :
    Takes open241 consoleLink ∧ 5 < (6 : Nat) ∧ Takes open241 officeLink ∧ officeLink ≠ consoleLink ∧ 6 ≤ officeLink.val ∧
      Takes open241 (linkOfLane 5) ∧ linkOfLane 5 ≠ consoleLink := by
  unfold Takes; decide

theorem witness_OpenAndCloseLane :
    Takes open241 consoleLink ∧ (open241.lane 0).gate = .off ∧ ((queued .settling []).lane 2).gate = .settling ∧
      ((queued .fault []).lane 2).gate = .fault ∧ ((queued .closing [credit 300 1 .passing]).lane 2).gate = .closing ∧
      (open241.lane 2).gate.inService = true ∧
      (let s : State := { queued .unlocked [credit 300 1 .unlocked] with pending := [.rotorLeave 2] }
       Takes s consoleLink ∧ (s.lane 2).gate = .unlocked ∧ s.pending.head? = some (.rotorLeave 2) ∧
        (s.lane 2).tracker = .home) := by
  unfold Takes; decide

theorem witness_ClearAndConfigureLane :
    Takes open241 consoleLink ∧ ((queued .fault []).lane 2).gate = .fault ∧ (open241.lane 0).gate = .off ∧
      (open241.lane 2).gate = .ready ∧ ((queued .holding [credit 300 1 .holding]).lane 2).gate = .holding := by
  unfold Takes; decide

theorem witness_LiftSeatsAndPacingAreSet :
    Takes open241 consoleLink ∧ (2 : Nat) ≤ 2 ∧ open241.pacer.lift = .running ∧ State.reset.pacer.lift = .stopped ∧
      open241.pacer.mode = .paced ∧ { open241.pacer with mode := .free }.mode = .free := by
  unfold Takes; decide

theorem witness_CarrierEdgesOpenSlots :
    open241.run = .running ∧ open241.pacer.mode = .paced ∧ open241.pacer.tracking = .tracking ∧
      open241.pacer.lastEdge = some 7080000 ∧
      (({ open241 with clock := 7083999 } : State).clock - 7080000 < open241.pacer.settings.intervalMin) ∧
      ¬ (({ open241 with clock := 7084000 } : State).clock - 7080000 < open241.pacer.settings.intervalMin) ∧
      open241.pacer.watchRunning = true ∧ State.reset.pacer.watchRunning = false := by decide

theorem witness_RotorLeavesAndReachesMid :
    open241.run = .running ∧ (passing300.lane 2).tracker ≠ .home ∧ (open241.lane 2).tracker = .home ∧
      (open241.lane 2).gate ≠ .unlocked ∧ ((queued .unlocked [credit 300 1 .unlocked]).lane 2).gate = .unlocked ∧
      (passing300.lane 2).tracker = .awayFirst ∧
      (passing300.lane 2).rotation.map Rotation.kind = some (.credited 300) ∧
      (passing300.lane 2).queue.head?.map Credit.state = some .passing := by decide

theorem witness_ReturnsAreCounted :
    passing300.run = .running ∧ (passing300.lane 2).rotation = some (rotation (.credited 300)) ∧
      (passing300.lane 2).tracker = .awayFirst ∧ (passing300.lane 2).queue.head?.map Credit.state = some .passing ∧
      ((away .holding .awaySecond (rotation .forced) [credit 301 2 .holding]).lane 2).tracker = .awaySecond ∧
      ((away .fault .awayFirst (rotation (.credited 300)) []).lane 2).queue = [] ∧
      ((away .closing .awayFirst (rotation (.credited 300)) [credit 300 1 .passing]).lane 2).gate = .closing ∧
      (passing300.lane 2).link = .alive ∧ (open241.lane 2).tracker = .home ∧ (open241.lane 0).tracker = .notRead := by decide

theorem witness_ReturnsAreCounted_release :
    let s : State := { queued .released [credit 300 1 .released] with clock := 7100000 }
    let free : State := { queued .holding [credit 300 1 .holding] with pacer := { open241.pacer with mode := .free } }
    ((s.lane 2).queue = [credit 300 1 .released] ∧ (s.lane 2).tracker = .home ∧
        (credit 300 1 .released).earliestUnlock = some s.clock) ∧
      ((free.lane 2).queue = [credit 300 1 .holding] ∧ (free.lane 2).tracker = .home ∧ free.pacer.mode = .free ∧
        free.pacer.lift = .running) ∧
      (let early : State := queued .released [credit 300 1 .released]
       (early.lane 2).queue = [credit 300 1 .released] ∧ (credit 300 1 .released).state ≠ .holding ∧
        (credit 300 1 .released).earliestUnlock.all (fun e => decide (early.clock < e)) = true) ∧
      (open241.lane 2).queue = [] := by decide

theorem witness_BeamSamplesClassifyAndFault :
    open241.run = .running ∧ (open241.lane 0).beam = none ∧ (open241.lane 2).beam = some .clear ∧
      ((open241.lane 2).config.faultLevel ≤ 4000 ∧ (open241.lane 2).firstSample = true) ∧
      ¬ ((open241.lane 2).config.faultLevel ≤ 3999) ∧ (open241.lane 2).gate ≠ .fault ∧
      (let r : FaultRecord := { first := .rotorStuck, faultAt := 7090000, later := none, count := 65535 }
       ((open241.setLane 2 { lane with gate := .fault, fault := some r }).lane 2).fault = some r) := by decide

theorem witness_LaneTimersRunOut :
    open241.run = .running ∧ (open241.lane 2).settleEnd = none ∧ (open241.lane 2).passageFrom = none ∧
      (open241.lane 0).silenceEnd = none ∧ (open241.lane 2).silenceEnd = some 9000000 ∧ (open241.lane 2).blockedFrom = none ∧
      (passing300.lane 2).passageFrom = some 7101000 ∧
      (let u := (open241.setLane 2 { lane with gate := .settling, settleEnd := some 7090250 }).lane 2
       u.settleEnd = some 7090250 ∧ u.gate = .settling) ∧
      ((open241.setLane 2 { lane with blockedFrom := some 7090000, beam := some .broken }).lane 2).blockedFrom =
        some 7090000 := by decide

theorem witness_CreditTimersRunOut :
    let s := queued .holding [credit 300 1 .holding, credit 301 2 .holding]
    s.run = .running ∧ (∀ c ∈ (open241.lane 2).queue, c.number = 300 → c.state ≠ .holding) ∧
      ((s.lane 2).queue[1]? = some (credit 301 2 .holding) ∧ (credit 301 2 .holding).lifeEnd = some 7120000) ∧
      ((s.lane 2).queue[0]? = some (credit 300 1 .holding)) ∧
      ((credit 300 1 .released).earliestUnlock = some 7100000 ∧
        ((queued .released [credit 300 1 .released]).lane 2).tracker = .home) ∧
      (credit 300 1 .unlocked).unlockEnd = some 7104000 ∧ (credit 300 1 .passing).unlockEnd = some 7104000 ∧
      (open241.lane 2).queue = [] := by decide

/-- R177, R178: the last byte of CLEAR ALL's answer, the low byte of its CRC, leaves with the start it takes. -/
theorem test_clear_all_last_byte :
    (match exec (.byteReceived officeLink 0#8) (clearing 7), exec (.answerSent officeLink) (clearing 7) with
     | .next s, .next t =>
      decide (s = t ∧ s.passes = [] ∧
        s.office.dataOut = BitVec.ofNat 8 (crc [32, 1, 2, 0, 0x80]))
     | _, _ => false) = true := by decide +kernel

theorem witness_ColdStartsEmptyTheMemory :
    ({ open241 with run := .off false } : State).run = .off false ∧
      ({ open241 with run := .heldPowerUp false } : State).run = .heldPowerUp false ∧ Takes open241 officeLink ∧
      (let s := answering officeLink { code := 32, tag := 1, answer := .cleared, begun := false }
       s.run = .running ∧ ((s.link officeLink).output.find? fun x => decide (x.answer = .cleared)).isSome = true ∧
        ((s.link officeLink).output.head?.map OutAnswer.answer) = some .cleared) ∧
      (((clearing 7).link officeLink).output.head?.all fun a =>
        decide (a.answer = .cleared ∧ a.bytes.length ≤ (clearing 7).office.readPos + 1)) = true ∧
      (clearing 7).office.fillerOpen = false ∧
      (∀ a ∈ (open241.link officeLink).output, a.answer ≠ .cleared) := by
  unfold Takes; decide +kernel

theorem witness_WarmStartsKeepTheRetainedMemory :
    ({ passing300 with run := .heldReset } : State).run = .heldReset ∧
      ({ passing300 with run := .off false } : State).run = .off false ∧
      ({ passing300 with run := .heldPowerUp true } : State).run = .heldPowerUp true := by decide

/-! ## A state under way that keeps every law -/

/-- Credit 300 is PASSING and credit 301 waits behind it, counted, with the MID of the rotation as the next command. -/
def lawful : State :=
  { passing300.modLane 2 fun u => { u with counts := { u.counts with grants := 2 } } with pending := [.mid 2] }

theorem witness_step : ∃ t, step lawful = .next t ∧ (t.lane 2).queue.length = 1 := ⟨_, rfl, by decide⟩

theorem witness_PassTableLawsAreKept_pool : PoolLaw lawful := ⟨by decide, by decide, by decide⟩

theorem witness_PassTableLawsAreKept_records : RecordsLaw lawful := by
  have h : ∀ p ∈ lawful.passes, p = pass 1 [⟨241, .full, .localAt 2, .tentative⟩] ∨
      p = pass 2 [⟨241, .full, .merged, .final⟩] ∨ p = pass 3 [] ∨ p = pass 4 [] := by decide
  intro p hp
  rcases h p hp with rfl | rfl | rfl | rfl <;>
    exact ⟨by decide, by decide, by decide, by decide, by decide, by decide, by decide, by decide, by decide, by decide,
      by decide, by decide⟩

theorem witness_RangeLaw : RangeLaw lawful :=
  ⟨by decide, by decide, by decide, by decide, by decide, by decide, by decide⟩

theorem witness_CreditLawsAreKept : CreditLaw lawful := ⟨by decide, by decide, by decide⟩

theorem witness_LaneLawsAreKept : LanesLaw lawful := by
  have h2 : LaneLaw (lawful.run = .running ∧ lawful.pending.head? = some (.rotorLeave 2)) 2 (lawful.lane 2) :=
    ⟨⟨by decide, by decide, by decide, by decide, by decide, by decide⟩,
      show (lawful.lane 2).queue.head?.map Credit.state = some .passing by decide,
      ⟨by decide, by decide, by decide, by decide, by decide, by decide, by decide, by decide, by decide⟩⟩
  have off : ∀ leaving i, LaneLaw leaving i (LaneUnit.atStart LaneConfig.cold 1 LaneCounts.zero) := fun _ i =>
    ⟨⟨by decide, by decide, by decide +revert, by decide, by decide, by decide⟩, rfl,
      ⟨by decide, by decide, by decide, by decide, by decide, by decide, by decide, by decide, by decide⟩⟩
  have hi : ∀ i, i ≠ 2 → lawful.lane i = LaneUnit.atStart LaneConfig.cold 1 LaneCounts.zero := by decide
  refine ⟨fun i => ?_, by decide, by decide⟩
  by_cases h : i = 2
  · subst h; exact h2
  · rw [hi i h]; exact off _ i

theorem witness_DayAndBalanceLawsAreKept : DayLaw lawful ∧ BalanceLaw lawful :=
  ⟨⟨by decide, by decide⟩, fun i => .inr (by revert i; decide)⟩

theorem witness_PacerLawsAndRangesAreKept : PacerLaw lawful.pacer :=
  ⟨by decide, by decide, by decide, by decide, by decide, by decide, by decide, by decide⟩

theorem witness_JournalLawIsKept : JournalLaw lawful := ⟨by decide, by decide, by decide, by decide⟩

theorem witness_LinkLawsAreKept : AttentionLaw lawful ∧ LinksLaw lawful :=
  ⟨⟨by decide, by decide, by decide, by decide⟩, fun l =>
    ⟨by revert l; decide, by revert l; decide, by revert l; decide, by revert l; decide⟩⟩

end Sys2Proof.Tests
end

/-! ## Requests and events as one shape

What a command's result says of the next state, for any predicate of states, and the action behind each request of the
table. -/

namespace Sys2Proof.Machine

/-- Every next state a result gives has a property. -/
def Gives (P : State → Prop) (r : Result) : Prop := ∀ t, r = .next t → P t

@[simp] theorem gives_next {P : State → Prop} {s : State} : Gives P (.next s) ↔ P s :=
  ⟨fun h => h s rfl, fun h _ ht => Host.Outcome.next.inj ht ▸ h⟩

theorem gives_whenRunning {P : State → Prop} {s : State} {event : State → State} (h : P s) (he : P (event s)) :
    Gives P (whenRunning s event) := by
  unfold whenRunning
  split
  · exact gives_next.mpr he
  · exact gives_next.mpr h

/-- A frame leaves the state alone, answers it, or acts on it and answers. -/
theorem gives_takeFrame {P : State → Prop} {s : State} {l : LinkNo} {code tag : Nat} {act : State → State × Answer}
    (h : P s) (busy : ∀ now, P ((s.taken l).modLink l (Endpoint.pushBusy code tag now)))
    (refused : ∀ a, P (s.answered l code tag a)) (acted : ∀ a, P ((act (s.taken l)).1.reply l code tag a)) :
    Gives P (takeFrame l code tag act s) := by
  rcases takeFrame_cases l code tag act s with
    ⟨-, e⟩ | ⟨-, -, ⟨now, -, e⟩ | ⟨-, ⟨-, e⟩ | ⟨-, -, e⟩ | ⟨-, -, e⟩⟩⟩ <;> rw [e, gives_next]
  · exact h
  · exact busy now
  · exact refused _
  · exact refused _
  · exact acted _

/-- The link, code, tag and action of a request; none for a command that is no request. -/
def requestAction : Instr → Option (LinkNo × Nat × Nat × (State → State × Answer))
  | .present l tag pass check => some (l, 1, tag, onLinkLane l (present pass check))
  | .laneStatus l tag => some (l, 2, tag, onLinkLane l fun i => report fun s => (s.lane i).status)
  | .hello l tag => some (l, 3, tag, report fun _ => .hello l (roleOf l))
  | .readEvents l tag => some (l, 4, tag, readEvents l)
  | .setMask l tag mask => some (l, 5, tag, setMask l mask)
  | .setLevels l tag v => some (l, 6, tag, setLevels v)
  | .readCounts l tag selector => some (l, 7, tag, readCounts l selector)
  | .readJournal l tag start count => some (l, 8, tag, readJournal start count)
  | .loadPass l tag n check cls days paid first last => some (l, 16, tag, loadPass n check cls days paid first last)
  | .amendPass l tag n presence last days paid cls check =>
    some (l, 17, tag, amendPass n presence (amendment presence last days paid cls check))
  | .blockPass l tag n => some (l, 18, tag, onPass n blockPass)
  | .unblockPass l tag n => some (l, 19, tag, onPass n unblockPass)
  | .purgePass l tag n => some (l, 20, tag, onPass n purgePass)
  | .readPass l tag n => some (l, 21, tag, onPass n fun p => report fun s => .pass (passReport s p))
  | .mergeUse l tag n day kind => some (l, 22, tag, mergeUse n day kind)
  | .quoteRefund l tag n => some (l, 23, tag, onPass n quoteRefund)
  | .settleRefund l tag n generation => some (l, 24, tag, onPass n (settleRefund generation))
  | .setTariff l tag cls t => some (l, 25, tag, setTariff cls t)
  | .readTariff l tag cls => some (l, 26, tag, readTariff cls)
  | .setClock l tag time => some (l, 27, tag, setClock time)
  | .openDay l tag day => some (l, 28, tag, openDay day)
  | .closeDay l tag => some (l, 29, tag, closeDay)
  | .readDay l tag => some (l, 30, tag, report dayReport)
  | .readStart l tag => some (l, 31, tag, report fun s => .start s.startRecord)
  | .clearAll l tag => some (l, 32, tag, report fun _ => .cleared)
  | .setLift l tag state => some (l, 48, tag, setLift state)
  | .setSeats l tag seats => some (l, 49, tag, setSeats seats)
  | .setPacing l tag mode settings => some (l, 50, tag, setPacing mode settings)
  | .readLift l tag => some (l, 51, tag, report fun s => .pacer s.pacer s.pacer.estimate)
  | .openLane l tag lane => some (l, 52, tag, onLane lane openLane)
  | .closeLane l tag lane => some (l, 53, tag, onLane lane closeLane)
  | .clearLane l tag lane => some (l, 54, tag, onLane lane clearLane)
  | .configureLane l tag lane config => some (l, 55, tag, onLane lane (configureLane config))
  | .readLane l tag lane => some (l, 56, tag, onLane lane fun i => report fun s => .lane (s.lane i).report)
  | .unknownRequest l tag code => some (l, code, tag, report fun _ => .unknownRequest)
  | _ => none

/-- A request's row takes its frame with its action. -/
theorem exec_requestAction {i : Instr} {l : LinkNo} {code tag : Nat} {act : State → State × Answer}
    (h : requestAction i = some (l, code, tag, act)) (s : State) : exec i s = takeFrame l code tag act s := by
  cases i <;> cases h <;> rfl

/-- The byte that completes a request's frame does what the request's row does (log 5). -/
theorem runRequest_requestAction {i : Instr} {l : LinkNo} {code tag : Nat} {act : State → State × Answer}
    (h : requestAction i = some (l, code, tag, act)) (s : State) : runRequest i s = takeFrame l code tag act s := by
  cases i <;> cases h <;> rfl

/-- A command that is no request comes with no frame. -/
theorem runRequest_noAction {i : Instr} (h : requestAction i = none) (s : State) : runRequest i s = .next s := by
  cases i <;> cases h <;> rfl

end Sys2Proof.Machine

/-! ## The table, the Pool and the records under change

`PoolLaw` and `RecordsLaw` speak of the pass list and the free count alone; `TableLaw` says both of these two, so that
what changes neither needs only its frame lemmas. -/

namespace Sys2Proof.Machine

/-- `PoolLaw` and `RecordsLaw` of a pass list and a free count. -/
structure TableLaw (ps : List Pass) (free : Nat) : Prop where
  ascending : ps.Pairwise fun p q => p.number < q.number
  fits : ps.length ≤ Config.tableSize
  conserved : free + (ps.map Pass.days).sum = Config.poolSize
  records : ∀ p ∈ ps, RecordLaw p

/-- The state's pass list and free count keep their laws. -/
def State.TableKept (s : State) : Prop := TableLaw s.passes s.free

theorem State.tableKept_iff (s : State) : s.TableKept ↔ PoolLaw s ∧ RecordsLaw s :=
  ⟨fun ⟨a, f, c, r⟩ => ⟨⟨a, f, c⟩, r⟩, fun ⟨⟨a, f, c⟩, r⟩ => ⟨a, f, c, r⟩⟩

theorem State.TableKept.congr {s t : State} (h : s.TableKept) (hp : t.passes = s.passes) (hf : t.free = s.free) :
    t.TableKept := by
  unfold State.TableKept at *
  rwa [hp, hf]

/-! ### One record for each number -/

theorem eq_of_number_eq {ps : List Pass} (h : ps.Pairwise fun p q => p.number < q.number) {p q : Pass} (hp : p ∈ ps)
    (hq : q ∈ ps) (hn : p.number = q.number) : p = q := by
  have hinj : (ps.map Pass.number).Nodup :=
    (List.pairwise_map.mpr h).imp fun hlt => Nat.ne_of_lt hlt
  exact List.inj_on_of_nodup_map hinj hp hq hn

theorem State.findPass_eq_some {s : State} {n : Nat} {p : Pass} (h : s.findPass n = some p) :
    p ∈ s.passes ∧ p.number = n :=
  ⟨List.mem_of_find?_eq_some h, by simpa using List.find?_some h⟩

theorem State.findPass_eq_none {s : State} {n : Nat} : s.findPass n = none ↔ ∀ p ∈ s.passes, p.number ≠ n := by
  simp [State.findPass]

/-- In a table that keeps its law a number keys the record found and no other. -/
theorem State.TableKept.eq_of_findPass {s : State} (h : s.TableKept) {n : Nat} {p q : Pass}
    (hp : s.findPass n = some p) (hq : q ∈ s.passes) (hn : q.number = n) : q = p := by
  obtain ⟨hmem, hnum⟩ := State.findPass_eq_some hp
  exact eq_of_number_eq h.ascending hq hmem (hn.trans hnum.symm)

/-! ### Changes of records that keep number and days -/

/-- A record put in another's place: the same number and days, and the law of R2. -/
structure Replaces (p q : Pass) : Prop where
  number : q.number = p.number
  days : q.days = p.days
  law : RecordLaw q

theorem pairwise_map_number {ps : List Pass} (h : ps.Pairwise fun p q => p.number < q.number) {f : Pass → Pass}
    (hf : ∀ p ∈ ps, (f p).number = p.number) : (ps.map f).Pairwise fun p q => p.number < q.number :=
  List.pairwise_map.mpr <| h.imp_of_mem fun hp hq hlt => by rwa [hf _ hp, hf _ hq]

theorem TableLaw.map {ps : List Pass} {free : Nat} (h : TableLaw ps free) {f : Pass → Pass}
    (hf : ∀ p ∈ ps, Replaces p (f p)) : TableLaw (ps.map f) free where
  ascending := pairwise_map_number h.ascending fun p hp => (hf p hp).number
  fits := by simpa using h.fits
  conserved := by
    have hdays : (ps.map f).map Pass.days = ps.map Pass.days := by
      rw [List.map_map]
      exact List.map_congr_left fun p hp => (hf p hp).days
    rw [hdays]
    exact h.conserved
  records := List.forall_mem_map.mpr fun p hp => (hf p hp).law

/-- A change of the record a number keys. -/
theorem State.TableKept.modPass {s : State} (h : s.TableKept) {n : Nat} {f : Pass → Pass}
    (hf : ∀ p ∈ s.passes, p.number = n → RecordLaw p → Replaces p (f p)) : (s.modPass n f).TableKept := by
  refine TableLaw.map h fun p hp => ?_
  split
  · exact hf p hp ‹_› (h.records p hp)
  · exact ⟨rfl, rfl, h.records p hp⟩

/-- A change of the record found. -/
theorem State.TableKept.modFound {s : State} (h : s.TableKept) {p : Pass} (hp : s.findPass p.number = some p)
    {f : Pass → Pass} (hf : RecordLaw p → Replaces p (f p)) : (s.modPass p.number f).TableKept :=
  h.modPass fun q hq hn hlaw => by
    obtain rfl := h.eq_of_findPass hp hq hn
    exact hf hlaw

/-! ### Changes of the reservations (R13, R17, R21) -/

theorem map_ite_number_ne {ps : List Pass} {n : Nat} (h : ∀ q ∈ ps, q.number ≠ n) (f : Pass → Pass) :
    ps.map (fun q => if q.number = n then f q else q) = ps := by
  conv_rhs => rw [← List.map_id ps]
  exact List.map_congr_left fun q hq => if_neg (h q hq)

/-- The sum of all D after a change of one record. -/
theorem sum_days_modPass {ps : List Pass} (h : ps.Pairwise fun p q => p.number < q.number) {p : Pass} (hp : p ∈ ps)
    (f : Pass → Pass) :
    ((ps.map fun q => if q.number = p.number then f q else q).map Pass.days).sum + p.days =
      (ps.map Pass.days).sum + (f p).days := by
  induction ps with
  | nil => cases hp
  | cons a as ih =>
    obtain ⟨ha, has⟩ := List.pairwise_cons.mp h
    rcases List.mem_cons.mp hp with rfl | hp
    · have hrest : ∀ q ∈ as, q.number ≠ p.number := fun q hq => (ha q hq).ne'
      rw [List.map_cons, map_ite_number_ne hrest]
      simp only [List.map_cons, List.sum_cons, if_true]
      omega
    · have hne : a.number ≠ p.number := (ha p hp).ne
      have hsum := ih has hp
      simp only [List.map_cons, List.sum_cons, if_neg hne]
      omega

/-- The sum of all D after one record is removed. -/
theorem sum_days_removePass {ps : List Pass} (h : ps.Pairwise fun p q => p.number < q.number) {p : Pass} (hp : p ∈ ps) :
    ((removePass p.number ps).map Pass.days).sum + p.days = (ps.map Pass.days).sum := by
  unfold removePass
  induction ps with
  | nil => cases hp
  | cons a as ih =>
    obtain ⟨ha, has⟩ := List.pairwise_cons.mp h
    rcases List.mem_cons.mp hp with rfl | hp
    · have hrest : as.filter (fun q => q.number ≠ p.number) = as :=
        List.filter_eq_self.mpr fun q hq => by simpa using (ha q hq).ne'
      rw [List.filter_cons_of_neg (by simp), hrest]
      simp only [List.map_cons, List.sum_cons]
      omega
    · have hne : a.number ≠ p.number := (ha p hp).ne
      have hsum := ih has hp
      rw [List.filter_cons_of_pos (by simpa using hne)]
      simp only [List.map_cons, List.sum_cons]
      omega

/-- A change of the record found that moves the change of D to or from the free count (R13). -/
theorem State.TableKept.amendFound {s : State} (h : s.TableKept) {p : Pass} (hp : s.findPass p.number = some p)
    {f : Pass → Pass} (hnum : (f p).number = p.number) (hlaw : RecordLaw (f p))
    (hroom : (f p).days ≤ s.free + p.days) :
    TableLaw (s.modPass p.number f).passes (s.free + p.days - (f p).days) where
  ascending := pairwise_map_number h.ascending fun q hq => by
    split
    · obtain rfl := h.eq_of_findPass hp hq ‹_›
      exact hnum
    · rfl
  fits := by simpa using h.fits
  conserved := by
    have hsum := sum_days_modPass h.ascending (State.findPass_eq_some hp).1 f
    have hpool := h.conserved
    rw [State.modPass_passes]
    omega
  records := List.forall_mem_map.mpr fun q hq => by
    split
    · obtain rfl := h.eq_of_findPass hp hq ‹_›
      exact hlaw
    · exact h.records q hq

/-- The record found removed, its D given back (R17). -/
theorem State.TableKept.purgeFound {s : State} (h : s.TableKept) {p : Pass} (hp : s.findPass p.number = some p) :
    TableLaw (removePass p.number s.passes) (s.free + p.days) where
  ascending := h.ascending.filter _
  fits := (List.length_filter_le _ _).trans h.fits
  conserved := by
    have hsum := sum_days_removePass h.ascending (State.findPass_eq_some hp).1
    have hpool := h.conserved
    omega
  records := fun q hq => h.records q (List.mem_of_mem_filter hq)

/-- A record with a new number, its D taken from the free count (R11). -/
theorem State.TableKept.insert {s : State} (h : s.TableKept) {p : Pass} (hn : ∀ q ∈ s.passes, q.number ≠ p.number)
    (hfits : s.passes.length < Config.tableSize) (hfree : p.days ≤ s.free) (hlaw : RecordLaw p) :
    TableLaw (insertPass p s.passes) (s.free - p.days) where
  ascending := pairwise_insertPass p _ h.ascending hn
  fits := by rw [length_insertPass]; exact hfits
  conserved := by
    have hpool := h.conserved
    rw [sum_insertPass]
    omega
  records := fun q hq => by
    rcases (mem_insertPass p q _).mp hq with rfl | hq
    · exact hlaw
    · exact h.records q hq

/-! ### The ordered day-use lists (R24, R25, R27, R28) -/

theorem bump_lt (g : Nat) : bump g < 65536 := Nat.mod_lt _ (by decide)

theorem pairwise_map_day {us : List DayUse} (h : us.Pairwise fun u v => u.day < v.day) {f : DayUse → DayUse}
    (hf : ∀ u, (f u).day = u.day) : (us.map f).Pairwise fun u v => u.day < v.day :=
  List.pairwise_map.mpr <| h.imp fun hlt => by rwa [hf, hf]

/-- A record with another day-use list in day order and within D. -/
theorem RecordLaw.withUses {p : Pass} (h : RecordLaw p) {us : List DayUse} {g : Nat}
    (hus : us.Pairwise fun u v => u.day < v.day) (hlen : us.length ≤ p.days) (hg : g < 65536) :
    RecordLaw { p with uses := us, generation := g } :=
  { h with ascending := hus, within := hlen, generation := hg }

theorem RecordLaw.finalise {p : Pass} (h : RecordLaw p) :
    RecordLaw { p with uses := finaliseUses p.uses, generation := bump p.generation } :=
  h.withUses (pairwise_map_day h.ascending fun u => by split <;> rfl) (by simpa [finaliseUses] using h.within)
    (bump_lt _)

theorem RecordLaw.dropTentative {p : Pass} (h : RecordLaw p) {g : Nat} (hg : g < 65536) :
    RecordLaw { p with uses := removeTentative p.uses, generation := g } :=
  h.withUses (h.ascending.filter _) ((List.length_filter_le _ _).trans h.within) hg

/-- A change of one day's entry keeps order and length. -/
theorem RecordLaw.modUse {p : Pass} (h : RecordLaw p) (day : Nat) {f : DayUse → DayUse} (hf : ∀ u, (f u).day = u.day) :
    RecordLaw { p with uses := modUse day f p.uses, generation := bump p.generation } :=
  h.withUses (pairwise_map_day h.ascending fun u => by split <;> simp [hf])
    (by simpa [Machine.modUse] using h.within) (bump_lt _)

/-- An entry for a new day, while there is room within D. -/
theorem RecordLaw.insertUse {p : Pass} (h : RecordLaw p) {e : DayUse} (hday : findUse e.day p.uses = none)
    (hroom : p.uses.length < p.days) :
    RecordLaw { p with uses := insertUse e p.uses, generation := bump p.generation } :=
  h.withUses (pairwise_insertUse e p.uses h.ascending hday) (by rw [length_insertUse]; exact hroom) (bump_lt _)

/-! ### States, flag and settlement of a record -/

/-- A record that is not SURRENDERED has no settlement part, whatever other state it moves to (R14, R16). -/
theorem RecordLaw.withState {p : Pass} (h : RecordLaw p) (hp : p.state ≠ .surrendered) {x : PassState}
    (hx : x ≠ .surrendered) : RecordLaw { p with state := x } :=
  have hs : p.settlement.isSome ≠ true := fun hs => hp (h.settled.mpr hs)
  { h with settled := ⟨fun e => absurd e hx, fun e => absurd e hs⟩ }

theorem RecordLaw.setOverUse {p : Pass} (h : RecordLaw p) : Replaces p p.setOverUse := by
  unfold Pass.setOverUse
  split
  · exact ⟨rfl, rfl, h⟩
  · exact ⟨rfl, rfl, { h with generation := bump_lt _ }⟩

theorem RecordLaw.settle {p : Pass} (h : RecordLaw p) {q : Quote} (day generation : Nat) (hq : q.refund ≤ p.paid) :
    Replaces p (p.settle q day generation) :=
  ⟨rfl, rfl, { h with
    generation := bump_lt _
    settled := ⟨fun _ => rfl, fun _ => rfl⟩
    refund := fun x hx => by
      obtain rfl := Option.some.inj hx
      exact hq }⟩

theorem RecordLaw.restart {p : Pass} (h : RecordLaw p) : Replaces p p.restart := by
  refine ⟨rfl, rfl, { h.dropTentative (g := p.restart.generation) ?_ with }⟩
  unfold Pass.restart
  dsimp only
  split
  · exact h.generation
  · exact bump_lt _

/-! ### A refund is within P (R147) -/

/-- The refund fraction of every class record is within the whole (R37). -/
def State.FractionsKept (s : State) : Prop := ∀ k : Fin 8, (s.tariffs.get k).fraction ≤ 10000

theorem fraction_le_of_tariffBad {cls : Nat} {t : Tariff} (h : tariffBad cls t = none) : t.fraction ≤ 10000 := by
  by_contra hlt
  have hlt : 10000 < t.fraction := by omega
  unfold tariffBad at h
  split_ifs at h

theorem RangeLaw.fractionsKept {s : State} (h : RangeLaw s) : s.FractionsKept :=
  fun k => fraction_le_of_tariffBad (h.tariffs k)

theorem State.FractionsKept.tariffOf {s : State} (h : s.FractionsKept) (cls : Nat) :
    (s.tariffOf cls).fraction ≤ 10000 := by
  unfold State.tariffOf
  split
  · exact h _
  · decide

theorem rounded_le (g quantum : Nat) : rounded g quantum ≤ g := Nat.sub_le _ _

theorem afterFee_le (n fee : Nat) : afterFee n fee ≤ n := by
  unfold afterFee
  split <;> omega

theorem residue_le (paid c : Nat) : residue paid c ≤ paid := by
  unfold residue
  split <;> omega

theorem afterFraction_le {a p fraction : Nat} (h : fraction ≤ 10000) : afterFraction a p fraction ≤ a :=
  Nat.div_le_of_le_mul <| by
    calc min a p * fraction ≤ a * 10000 := Nat.mul_le_mul (Nat.min_le_left _ _) h
      _ = 10000 * a := Nat.mul_comm _ _

theorem quoteOf_refund_le (p : Pass) {t : Tariff} (h : t.fraction ≤ 10000) : (quoteOf p t).refund ≤ p.paid := by
  unfold quoteOf
  dsimp only
  split
  · exact Nat.zero_le _
  · exact (rounded_le _ _).trans <| (afterFee_le _ _).trans <| (afterFraction_le h).trans (residue_le _ _)

end Sys2Proof.Machine

/-! ## What events do to the table

First the operations that leave pass list and free count alone, then those that change records. -/

namespace Sys2Proof.Machine

/-! ### Operations that leave the table alone -/

@[simp] theorem State.tableKept_modLane (s : State) (i : LaneNo) (f : LaneUnit → LaneUnit) :
    (s.modLane i f).TableKept ↔ s.TableKept := Iff.rfl
@[simp] theorem State.tableKept_waitUntil (s : State) (t : Nat) : (s.waitUntil t).TableKept ↔ s.TableKept := Iff.rfl
@[simp] theorem State.tableKept_append (s : State) (b : JournalBody) : (s.append b).TableKept ↔ s.TableKept := Iff.rfl
@[simp] theorem State.tableKept_raise (s : State) (p : EventPair) : (s.raise p).TableKept ↔ s.TableKept := by
  simp [State.TableKept]
@[simp] theorem State.tableKept_raiseAt (s : State) (k : LaneEvent) (i : LaneNo) :
    (s.raiseAt k i).TableKept ↔ s.TableKept := s.tableKept_raise _
@[simp] theorem State.tableKept_reply (s : State) (l : LinkNo) (code tag : Nat) (a : Answer) :
    (s.reply l code tag a).TableKept ↔ s.TableKept := by simp [State.TableKept]
@[simp] theorem State.tableKept_taken (s : State) (l : LinkNo) : (s.taken l).TableKept ↔ s.TableKept := by
  rw [State.taken_eq]; rfl
@[simp] theorem State.tableKept_answered (s : State) (l : LinkNo) (code tag : Nat) (a : Answer) :
    (s.answered l code tag a).TableKept ↔ s.TableKept := by simp [State.answered]

@[simp] theorem State.tableKept_tryUnlock (s : State) (i : LaneNo) : (s.tryUnlock i).TableKept ↔ s.TableKept := by
  rw [State.tryUnlock_eq]; rfl
@[simp] theorem State.tableKept_freeRelease (s : State) (i : LaneNo) :
    (s.freeRelease i).TableKept ↔ s.TableKept := by
  obtain ⟨u, e⟩ := s.freeRelease_eq i
  rw [e]; rfl
@[simp] theorem State.tableKept_freeReleaseAll (s : State) : s.freeReleaseAll.TableKept ↔ s.TableKept := by
  rw [State.freeReleaseAll_eq]; rfl
@[simp] theorem State.tableKept_arbitrate (s : State) : s.arbitrate.TableKept ↔ s.TableKept := by
  rw [State.arbitrate_eq]; rfl
@[simp] theorem State.tableKept_offer (s : State) (i : LaneNo) : (s.offer i).TableKept ↔ s.TableKept := by
  rw [State.offer_eq]; rfl
@[simp] theorem State.tableKept_homeRelease (s : State) (i : LaneNo) :
    (s.homeRelease i).TableKept ↔ s.TableKept := by
  unfold State.homeRelease
  dsimp only
  split <;> simp

@[simp] theorem State.tableKept_closeIfDrained (s : State) : s.closeIfDrained.TableKept ↔ s.TableKept := by
  unfold State.closeIfDrained State.closeNow
  split
  · simp only [State.tableKept_raise, State.tableKept_append]; rfl
  · rfl

@[simp] theorem State.tableKept_countUntagged (s : State) (i : LaneNo) (cause : UntaggedCause) :
    (s.countUntagged i cause).TableKept ↔ s.TableKept := by simp [State.countUntagged]
@[simp] theorem State.tableKept_countBackout (s : State) (i : LaneNo) (r : Rotation) :
    (s.countBackout i r).TableKept ↔ s.TableKept := by simp [State.countBackout]
@[simp] theorem State.tableKept_countRotation (s : State) (i : LaneNo) (left : Tracker) (r : Rotation) :
    (s.countRotation i left r).TableKept ↔ s.TableKept := by
  unfold State.countRotation
  dsimp only
  split_ifs <;> simp
@[simp] theorem State.tableKept_laterCause (s : State) (i : LaneNo) (cause : FaultCause) :
    (s.laterCause i cause).TableKept ↔ s.TableKept := by
  unfold State.laterCause
  split <;> simp

/-! ### The end of a credit, withdrawals and faults -/

variable {s : State}

theorem State.TableKept.settleLink (h : s.TableKept) (c : Credit) (o : CreditOutcome) :
    (s.settleLink c o).TableKept := by
  unfold State.settleLink
  split
  · refine h.modPass fun p _ _ hp => ⟨rfl, rfl, ?_⟩
    split
    · exact hp.finalise
    · exact hp.dropTentative (bump_lt _)
  · exact h

theorem State.TableKept.writePassage (h : s.TableKept) (i : LaneNo) (c : Credit) : (s.writePassage i c).TableKept :=
  h.modPass fun _ _ _ hp => ⟨rfl, rfl, { hp with }⟩

theorem State.TableKept.endCredit (h : s.TableKept) (i : LaneNo) (place : Nat) (o : CreditOutcome) :
    (s.endCredit i place o).TableKept := by
  unfold State.endCredit
  split
  · exact h
  · rename_i c _
    have hlink : ((s.modLane i fun u => u.dequeue place c).settleLink c o).TableKept :=
      State.TableKept.settleLink (s := s.modLane i _) h c o
    dsimp only
    split
    · simpa using hlink.writePassage i c
    · simpa using hlink

theorem State.TableKept.endHead (h : s.TableKept) (i : LaneNo) (o : CreditOutcome) : (s.endHead i o).TableKept := by
  simpa [State.endHead] using h.endCredit i 0 o

theorem State.TableKept.withdrawFrom (i : LaneNo) (cause : Cause) (which : Credit → Bool) (q : List Credit)
    (place : Nat) (h : s.TableKept) : (withdrawFrom i cause which q place s).TableKept := by
  induction q generalizing s place with
  | nil => exact h
  | cons c cs ih =>
    unfold Machine.withdrawFrom
    split
    · exact ih _ (h.endCredit i place _)
    · exact ih _ h

theorem State.TableKept.withdraw (h : s.TableKept) (i : LaneNo) (cause : Cause) (which : Credit → Bool) :
    (s.withdraw i cause which).TableKept := h.withdrawFrom i cause which _ 0

theorem State.TableKept.withdrawAll (h : s.TableKept) : s.withdrawAll.TableKept := by
  have key : ∀ (is : List LaneNo) (t : State), t.TableKept →
      (is.foldl (fun t i => t.withdraw i .dayClosing Credit.notUnlocked) t).TableKept := by
    intro is
    induction is with
    | nil => exact fun _ ht => ht
    | cons i is ih => exact fun t ht => ih _ (ht.withdraw i _ _)
  exact key _ s h

theorem State.TableKept.closeInService (h : s.TableKept) (i : LaneNo) : (s.closeInService i).TableKept := by
  simpa [State.closeInService] using h.withdraw i _ _

theorem State.TableKept.enterFault (h : s.TableKept) (i : LaneNo) (cause : FaultCause) :
    (s.enterFault i cause).TableKept := by
  simpa [State.enterFault] using State.TableKept.withdraw (s := s.modLane i _) h i _ _

theorem State.TableKept.detect (h : s.TableKept) (i : LaneNo) (cause : FaultCause) : (s.detect i cause).TableKept := by
  unfold State.detect
  split
  · simpa using h
  · exact h.enterFault i cause

theorem State.TableKept.backoutCredit (h : s.TableKept) (i : LaneNo) (r : Rotation) :
    (s.backoutCredit i r).TableKept := by
  unfold State.backoutCredit
  split_ifs
  · exact h.endHead i _
  · exact h.endHead i _
  · exact h.endHead i _
  · exact h

theorem State.TableKept.returnHome (h : s.TableKept) (i : LaneNo) (r : Rotation) : (s.returnHome i r).TableKept := by
  have hcount : ((s.modLane i LaneUnit.atHome).countRotation i (s.lane i).tracker r).TableKept := by simpa using h
  unfold State.returnHome
  simp only [State.tableKept_modLane, State.tableKept_homeRelease]
  split
  · exact hcount.backoutCredit i r
  · exact hcount

/-! ### Edges and starts -/

theorem State.TableKept.regain (h : s.TableKept) : s.regain.TableKept := by
  unfold State.regain
  split
  · simp only [State.tableKept_raise, State.tableKept_append]
    exact h
  · exact h

theorem State.TableKept.acceptEdge (h : s.TableKept) (k : EdgeClass) : (s.acceptEdge k).TableKept := by
  unfold State.acceptEdge
  simp only [State.tableKept_arbitrate]
  exact h.regain

/-- The emptied table: no record, the whole Pool free (R181). -/
theorem State.tableKept_emptied (s : State) : s.emptied.TableKept :=
  ⟨.nil, Nat.zero_le _, rfl, fun _ hp => by cases hp⟩

theorem State.TableKept.start (h : s.TableKept) (kind : StartKind) (cause : StartCause) :
    (s.start kind cause).TableKept := by
  have hrestart : ∀ {m : State} (_ : m.TableKept) (old : Option DayState × Nat × Nat),
      (m.restart kind cause old).TableKept :=
    fun hm _ => TableLaw.map hm fun p hp => (hm.records p hp).restart
  unfold State.start
  simp only [State.tableKept_append]
  refine hrestart ?_ _
  split
  · exact s.tableKept_emptied
  · exact h

theorem State.TableKept.clearAllSent (h : s.TableKept) (a : OutAnswer) : (s.clearAllSent a).TableKept :=
  (h.start .cold .clearAll).congr rfl rfl

theorem State.TableKept.officeSent (h : s.TableKept) (a : OutAnswer) : (s.officeSent a).TableKept := by
  unfold State.officeSent
  split
  · exact h.clearAllSent a
  · exact h

theorem State.TableKept.clockOut (h : s.TableKept) : s.clockOut.TableKept := by
  have hfiller : s.useFiller.TableKept := by
    rw [State.useFiller_eq]; exact h
  unfold State.clockOut
  split
  · exact h
  · split
    · exact hfiller
    · unfold State.clockByte
      split
      · exact hfiller
      · exact hfiller.officeSent _

end Sys2Proof.Machine

/-! ## What requests do to the table -/

namespace Sys2Proof.Machine

/-- A request's action keeps the table. The fractions of the class records serve the refund of a settlement alone. -/
def KeepsTable (act : State → State × Answer) : Prop :=
  ∀ s : State, s.FractionsKept → s.TableKept → (act s).1.TableKept

theorem keepsTable_report (f : State → Answer) : KeepsTable (report f) := fun _ _ h => h

theorem keepsTable_onLinkLane {l : LinkNo} {act : LaneNo → State → State × Answer} (h : ∀ i, KeepsTable (act i)) :
    KeepsTable (onLinkLane l act) := by
  intro s hf hs
  unfold onLinkLane
  split
  · exact h _ s hf hs
  · exact hs

theorem keepsTable_onLane {lane : Nat} {act : LaneNo → State → State × Answer} (h : ∀ i, KeepsTable (act i)) :
    KeepsTable (onLane lane act) := by
  intro s hf hs
  unfold onLane
  split
  · exact h _ s hf hs
  · exact hs

/-- A request that names a pass keeps the table if it does so on the record found. -/
theorem keepsTable_onPass {n : Nat} {act : Pass → State → State × Answer}
    (h : ∀ (s : State) (p : Pass), s.findPass p.number = some p → s.FractionsKept → s.TableKept →
      (act p s).1.TableKept) :
    KeepsTable (onPass n act) := by
  intro s hf hs
  unfold onPass
  split
  · exact hs
  · split
    · exact hs
    · rename_i p hp
      obtain rfl := (State.findPass_eq_some hp).2
      exact h s p hp hf hs

/-! ### The Pass Table's own requests (R11 to R17) -/

theorem recordLaw_newPass {n check cls days paid first last : Nat}
    (h : loadInRange n cls days paid first last = true) : RecordLaw (newPass n check cls days paid first last) := by
  simp only [loadInRange, Bool.and_eq_true] at h
  obtain ⟨⟨⟨⟨⟨⟨hn, hcls⟩, hdays⟩, hpaid⟩, hfirst⟩, hlast⟩, hwindow⟩ := h
  exact ⟨hn, hcls, hdays, hpaid, hfirst, hlast, hwindow, Nat.zero_lt_succ _, .nil, Nat.zero_le _, by simp [newPass],
    fun _ hx => by cases hx⟩

theorem keepsTable_loadPass (n check cls days paid first last : Nat) :
    KeepsTable (loadPass n check cls days paid first last) := by
  intro s _ h
  unfold loadPass
  split_ifs with hrange hdup hfull hpool
  · exact h
  · exact h
  · exact h
  · have hnew : ∀ q ∈ s.passes, q.number ≠ n := State.findPass_eq_none.mp (by simpa using hdup)
    exact h.insert hnew (by omega) (Nat.le_of_not_lt hpool) (recordLaw_newPass hrange)
  · exact h

theorem getD_of_all {f : Nat → Bool} {o : Option Nat} {v : Nat} (ho : o.all f = true) (hv : f v = true) :
    f (o.getD v) = true := by
  cases o with
  | none => exact hv
  | some w => exact ho

theorem all_of_not_any {f g : Nat → Bool} {o : Option Nat} (ho : ¬ o.any f = true)
    (h : ∀ v, f v = false → g v = true) : o.all g = true := by
  cases o with
  | none => rfl
  | some w => exact h w (Bool.eq_false_iff.mpr ho)

/-- Values that pass the checks of R12 leave a record in its law. -/
theorem RecordLaw.amend {p : Pass} (h : RecordLaw p) (hstate : p.state ≠ .surrendered) {n presence : Nat}
    {a : Amendment} (hrange : amendInRange n presence a = true) (hwindow : a.lastDay.all (windowOk p.firstDay) = true)
    (huse : a.days.all (p.uses.length ≤ ·) = true) : RecordLaw (p.amend a) := by
  simp only [amendInRange, Bool.and_eq_true] at hrange
  obtain ⟨⟨⟨⟨⟨-, -⟩, hlast⟩, hdays⟩, hpaid⟩, hcls⟩ := hrange
  refine { h with
    cls := getD_of_all hcls h.cls
    days := getD_of_all hdays h.days
    paid := getD_of_all hpaid h.paid
    last := getD_of_all hlast h.last
    window := getD_of_all hwindow h.window
    generation := bump_lt _
    within := of_decide_eq_true (getD_of_all (f := fun d => p.uses.length ≤ d) huse (decide_eq_true h.within))
    refund := fun x hx => ?_ }
  exact absurd (h.settled.mpr (Option.isSome_of_mem hx)) hstate

theorem keepsTable_amendPass (n presence : Nat) (a : Amendment) : KeepsTable (amendPass n presence a) := by
  intro s _ h
  unfold amendPass
  split_ifs with hrange
  swap
  · exact h
  split
  · exact h
  rename_i p hp
  obtain ⟨hmem, rfl⟩ := State.findPass_eq_some hp
  split_ifs with hstate hwindow huse hpool
  · exact h
  · exact h
  · exact h
  · exact h
  · have hlaw : RecordLaw (p.amend a) := (h.records p hmem).amend hstate hrange
      (all_of_not_any hwindow fun v hv => by simpa using hv) (all_of_not_any huse fun v hv => by simpa using hv)
    have hroom : a.days.all (fun d => decide (d ≤ s.free + p.days)) = true :=
      all_of_not_any hpool fun v hv => by
        simp only [decide_eq_false_iff_not, decide_eq_true_eq] at hv ⊢
        omega
    exact h.amendFound hp (f := Pass.amend a) rfl hlaw
      (of_decide_eq_true (getD_of_all hroom (decide_eq_true (Nat.le_add_left _ _))))

theorem keepsTable_blockPass (n : Nat) : KeepsTable (onPass n blockPass) := by
  refine keepsTable_onPass fun s p hp _ h => ?_
  unfold blockPass
  split_ifs with hstate
  · exact h
  have hblocked : (s.modPass p.number fun q => { q with state := .blocked }).TableKept :=
    h.modFound hp fun hlaw => ⟨rfl, rfl, hlaw.withState hstate (by decide)⟩
  dsimp only
  split
  · exact hblocked
  · split_ifs
    · exact hblocked.endHead _ _
    · exact hblocked.endCredit _ _ _
    · exact hblocked

theorem keepsTable_unblockPass (n : Nat) : KeepsTable (onPass n unblockPass) := by
  refine keepsTable_onPass fun s p hp _ h => ?_
  unfold unblockPass
  split_ifs with hstate
  · exact h
  · exact h.modFound hp fun hlaw => ⟨rfl, rfl, hlaw.withState hstate (by decide)⟩

theorem keepsTable_purgePass (n : Nat) : KeepsTable (onPass n purgePass) := by
  refine keepsTable_onPass fun s p hp _ h => ?_
  unfold purgePass
  split
  · exact h
  · exact h.purgeFound hp

/-! ### MERGE USE and refunds (R30 to R35, R150) -/

theorem State.TableKept.markOverUse {s : State} (h : s.TableKept) (p : Pass) (day : Nat) :
    (s.markOverUse p day).TableKept :=
  h.modPass fun _ _ _ hlaw => hlaw.setOverUse

theorem State.TableKept.merged {s : State} (h : s.TableKept) {p : Pass} (hp : s.findPass p.number = some p)
    {us : List DayUse} (r : MergeResult)
    (hus : RecordLaw p → RecordLaw { p with uses := us, generation := bump p.generation }) :
    (s.merged p us r).1.TableKept :=
  h.modFound hp fun hlaw => ⟨rfl, rfl, hus hlaw⟩

theorem State.TableKept.mergeInWindow {s : State} (h : s.TableKept) {p : Pass} (hp : s.findPass p.number = some p)
    (day : Nat) (kind : DayKind) : (mergeInWindow day kind p s).1.TableKept := by
  unfold Machine.mergeInWindow
  split
  · exact h.markOverUse p day
  split
  · split_ifs
    · exact h.merged hp _ fun hlaw => hlaw.modUse day fun _ => rfl
    · exact h
    · exact State.TableKept.merged (s := s.cutLink p.number) h hp _ fun hlaw => hlaw.modUse day fun _ => rfl
  · split_ifs with hroom
    · exact h.merged hp _ fun hlaw => hlaw.insertUse ‹_› hroom
    · exact h.markOverUse p day

theorem keepsTable_mergeUse (n day kind : Nat) : KeepsTable (mergeUse n day kind) := by
  intro s hf h
  unfold mergeUse
  split
  · exact h
  · refine keepsTable_onPass (fun s p hp _ h => ?_) s hf h
    split
    · exact h.mergeInWindow hp _ _
    · exact h

theorem keepsTable_quoteRefund (n : Nat) : KeepsTable (onPass n quoteRefund) := by
  refine keepsTable_onPass fun s p _ _ h => ?_
  unfold quoteRefund
  split <;> exact h

theorem keepsTable_settleRefund (n generation : Nat) : KeepsTable (onPass n (settleRefund generation)) := by
  refine keepsTable_onPass fun s p hp hf h => ?_
  unfold settleRefund
  split
  · exact h
  · split_ifs
    · exact h
    · exact h
    · exact h.modFound hp fun hlaw => hlaw.settle _ _ (quoteOf_refund_le p (hf.tariffOf p.cls))

/-! ### Admission (R26, R55) -/

/-- A pass that no check of R55 denies has room within D on a day that is not in its list. -/
theorem passDeny_none_room {s : State} {p : Pass} {check : Nat} (h : passDeny s p check = none)
    (hday : findUse s.currentDay p.uses = none) : p.uses.length ≠ p.days := by
  intro hfull
  cases hc : s.creditOf p.number with
  | none =>
    simp only [passDeny, hc, hday, Option.isNone_none, hfull, and_self, if_true] at h
    split_ifs at h
  | some x =>
    simp only [passDeny, hc] at h
    split_ifs at h

theorem firstUse_eq_some {s : State} {p : Pass} {k : DayKind} (h : firstUse s p = some k) :
    findUse s.currentDay p.uses = none := by
  unfold firstUse at h
  split_ifs at h with hnone
  simpa using hnone

/-- The record of a granted pass, with the TENTATIVE entry of a first use (R26). -/
def State.linkFirstUse (s : State) (i : LaneNo) (p : Pass) : State :=
  match firstUse s p with
  | some k => s.modPass p.number (Pass.addTentative s.currentDay i k)
  | none => s

/-- A grant changes the record, then the queue, and offers a credit that became the head. -/
theorem grant_fst (i : LaneNo) (p : Pass) (s : State) :
    (grant i p s).1 =
      if (s.lane i).queue = [] then
        ((s.linkFirstUse i p).modLane i (LaneUnit.enqueue (newCredit s i p))).offer i
      else (s.linkFirstUse i p).modLane i (LaneUnit.enqueue (newCredit s i p)) := rfl

theorem State.TableKept.grant {s : State} (h : s.TableKept) {p : Pass} {check : Nat} (hp : s.findPass p.number = some p)
    (hok : passDeny s p check = none) (i : LaneNo) : (grant i p s).1.TableKept := by
  have hroom : RecordLaw p → findUse s.currentDay p.uses = none → p.uses.length < p.days := fun hlaw hday =>
    lt_of_le_of_ne hlaw.within (passDeny_none_room hok hday)
  have hlink : (s.linkFirstUse i p).TableKept := by
    unfold State.linkFirstUse
    split
    · rename_i k hk
      have hday := firstUse_eq_some hk
      exact h.modFound hp fun hlaw => ⟨rfl, rfl, hlaw.insertUse hday (hroom hlaw hday)⟩
    · exact h
  rw [grant_fst]
  split
  · simpa using hlink
  · exact hlink

theorem keepsTable_present (l : LinkNo) (pass check : Nat) : KeepsTable (onLinkLane l (present pass check)) := by
  refine keepsTable_onLinkLane fun i s _ h => ?_
  unfold present
  dsimp only
  split_ifs
  · exact h
  · exact h
  · exact h
  split
  · exact h
  · rename_i p hp
    obtain rfl := (State.findPass_eq_some hp).2
    split
    · exact h
    · exact h.grant hp ‹_› i

/-! ### Days and lanes (R46, R47, R81 to R83) -/

theorem keepsTable_openDay (day : Nat) : KeepsTable (openDay day) := by
  have hzero : ∀ {s : State}, s.TableKept → s.zeroDay.TableKept := fun h =>
    TableLaw.map h fun p hp => ⟨rfl, rfl, { h.records p hp with }⟩
  intro s _ h
  unfold openDay
  split_ifs
  · exact h
  · exact h
  · exact h
  · unfold State.openNow
    simp only [State.tableKept_raise, State.tableKept_append]
    split
    · exact h
    · exact hzero h
  · exact h

theorem keepsTable_closeDay : KeepsTable closeDay := by
  intro s _ h
  unfold closeDay
  split
  · exact h
  · exact h
  · simp only [State.tableKept_closeIfDrained]
    exact h.withdrawAll.congr rfl rfl

theorem keepsTable_openLane (i : LaneNo) : KeepsTable (openLane i) := by
  intro s _ h
  unfold openLane
  dsimp only
  split
  case h_3 => simpa using h
  all_goals exact h

theorem keepsTable_closeLane (i : LaneNo) : KeepsTable (closeLane i) := by
  intro s _ h
  unfold closeLane closeLane.inService
  dsimp only
  split
  case h_1 | h_2 | h_3 | h_4 => exact h
  all_goals exact h.closeInService i

theorem keepsTable_clearLane (i : LaneNo) : KeepsTable (clearLane i) := by
  intro s _ h
  unfold clearLane
  split <;> exact h

theorem keepsTable_configureLane (config : LaneConfig) (i : LaneNo) : KeepsTable (configureLane config i) := by
  intro s _ h
  unfold configureLane
  dsimp only
  split <;> exact h

/-! ### The pacer, tariffs, clock and reports -/

theorem State.TableKept.startLift {s : State} (h : s.TableKept) : s.startLift.TableKept := by
  unfold State.startLift
  split
  · simp only [State.tableKept_arbitrate]
    exact h
  · simp only [State.tableKept_freeReleaseAll]
    exact h

theorem keepsTable_setLift (state : Nat) : KeepsTable (setLift state) := by
  intro s _ h
  unfold setLift
  split
  · exact h
  · split
    · exact h
    · split
      · exact h.startLift
      · exact h

theorem keepsTable_setPacing (mode : Nat) (settings : PacingSettings) : KeepsTable (setPacing mode settings) := by
  intro s _ h
  unfold setPacing
  split
  · exact h
  · dsimp only
    split
    · simp only [State.tableKept_freeReleaseAll]
      exact h
    · exact h

theorem keepsTable_setTariff (cls : Nat) (t : Tariff) : KeepsTable (setTariff cls t) := by
  intro s _ h
  unfold setTariff
  split
  · exact h
  · exact h
  · split <;> exact h

theorem keepsTable_readTariff (cls : Nat) : KeepsTable (readTariff cls) := by
  intro s _ h
  unfold readTariff
  split <;> exact h

theorem keepsTable_setClock (time : Nat) : KeepsTable (setClock time) := by
  intro s _ h
  unfold setClock
  split_ifs <;> exact h

theorem keepsTable_setMask (l : LinkNo) (mask : Nat) : KeepsTable (setMask l mask) := by
  intro s _ h
  unfold setMask
  split <;> exact h

theorem keepsTable_setLevels (v : Levels) : KeepsTable (setLevels v) := by
  intro s _ h
  unfold setLevels
  split <;> exact h

theorem keepsTable_readCounts (l : LinkNo) (selector : Nat) : KeepsTable (readCounts l selector) := by
  intro s _ h
  unfold readCounts
  split <;> exact h

theorem keepsTable_readJournal (start count : Nat) : KeepsTable (readJournal start count) := by
  intro s _ h
  unfold readJournal
  dsimp only
  split_ifs <;> exact h

/-- Every request of R178 keeps the table. -/
theorem keepsTable_requestAction {c : Instr} {l : LinkNo} {code tag : Nat} {act : State → State × Answer}
    (hc : requestAction c = some (l, code, tag, act)) : KeepsTable act := by
  cases c <;> cases hc
  case present => exact keepsTable_present _ _ _
  case laneStatus => exact keepsTable_onLinkLane fun _ => keepsTable_report _
  case hello => exact keepsTable_report _
  case readEvents => exact fun _ _ h => h
  case setMask => exact keepsTable_setMask _ _
  case setLevels => exact keepsTable_setLevels _
  case readCounts => exact keepsTable_readCounts _ _
  case readJournal => exact keepsTable_readJournal _ _
  case loadPass => exact keepsTable_loadPass _ _ _ _ _ _ _
  case amendPass => exact keepsTable_amendPass _ _ _
  case blockPass => exact keepsTable_blockPass _
  case unblockPass => exact keepsTable_unblockPass _
  case purgePass => exact keepsTable_purgePass _
  case readPass => exact keepsTable_onPass fun _ _ _ _ h => h
  case mergeUse => exact keepsTable_mergeUse _ _ _
  case quoteRefund => exact keepsTable_quoteRefund _
  case settleRefund => exact keepsTable_settleRefund _ _
  case setTariff => exact keepsTable_setTariff _ _
  case readTariff => exact keepsTable_readTariff _
  case setClock => exact keepsTable_setClock _
  case openDay => exact keepsTable_openDay _
  case closeDay => exact keepsTable_closeDay
  case readDay => exact keepsTable_report _
  case readStart => exact keepsTable_report _
  case clearAll => exact keepsTable_report _
  case setLift => exact keepsTable_setLift _
  case setSeats => exact fun _ _ h => h
  case setPacing => exact keepsTable_setPacing _ _
  case readLift => exact keepsTable_report _
  case openLane => exact keepsTable_onLane keepsTable_openLane
  case closeLane => exact keepsTable_onLane keepsTable_closeLane
  case clearLane => exact keepsTable_onLane keepsTable_clearLane
  case configureLane => exact keepsTable_onLane (keepsTable_configureLane _)
  case readLane => exact keepsTable_onLane fun _ => keepsTable_report _
  case unknownRequest => exact keepsTable_report _

end Sys2Proof.Machine

/-! ## Every step keeps the table -/

namespace Sys2Proof.Machine

variable {s : State}

theorem State.FractionsKept.taken (hf : s.FractionsKept) (l : LinkNo) : (s.taken l).FractionsKept := by
  rw [State.taken_eq]; exact hf

theorem State.TableKept.takeFrame (h : s.TableKept) (hf : s.FractionsKept) {act : State → State × Answer}
    (hact : KeepsTable act) (l : LinkNo) (code tag : Nat) : Gives State.TableKept (takeFrame l code tag act s) :=
  have htaken : (s.taken l).TableKept := (s.tableKept_taken l).mpr h
  gives_takeFrame h (fun _ => htaken) (fun _ => by simpa using h)
    fun _ => by simpa using hact _ (hf.taken l) htaken

/-- A request, from its row or from the byte that completes its frame. -/
theorem State.TableKept.runRequest (h : s.TableKept) (hf : s.FractionsKept) (c : Instr) :
    Gives State.TableKept (runRequest c s) := by
  cases hc : requestAction c with
  | none => rw [runRequest_noAction hc, gives_next]; exact h
  | some x =>
    obtain ⟨l, code, tag, act⟩ := x
    rw [runRequest_requestAction hc]
    exact h.takeFrame hf (keepsTable_requestAction hc) l code tag

/-! ### Bytes -/

theorem State.TableKept.receiveByte (h : s.TableKept) (hf : s.FractionsKept) (l : LinkNo) (b : Byte) :
    Gives State.TableKept (receiveByte l b s) := by
  unfold Machine.receiveByte
  split
  · rw [gives_next]
    split <;> exact h
  · dsimp only
    split_ifs
    · exact gives_next.mpr h
    · unfold completeFrame
      split
      · exact h.runRequest hf _
      · exact gives_next.mpr h
    · exact gives_next.mpr h

/-- A byte that is not the last of CLEAR ALL's answer leaves the class records as they are. -/
theorem State.clockOut_tariffs (h : s.clearsNow = false) : s.clockOut.tariffs = s.tariffs := by
  have hfiller : s.useFiller.tariffs = s.tariffs := by rw [State.useFiller_eq]
  have hpos : s.useFiller.office.readPos = s.office.readPos := by unfold State.useFiller; split <;> rfl
  unfold State.clockOut
  split
  · rfl
  · rename_i a as hout
    split
    · exact hfiller
    · rename_i hnofiller
      unfold State.clockByte
      split
      · exact hfiller
      · rename_i hlast
        have hclear : a.answer ≠ .cleared := fun hc => by
          rw [hpos] at hlast
          simp only [State.clearsNow, hout, hnofiller, hc, Bool.not_false, decide_true, Bool.and_self, Bool.true_and,
            decide_eq_false_iff_not] at h
          omega
        rw [State.officeSent, if_neg hclear]
        exact hfiller

theorem State.TableKept.byteReceived (h : s.TableKept) (hf : s.FractionsKept) (l : LinkNo) (b : Byte) :
    Gives State.TableKept (execByteReceived l b s) := by
  unfold execByteReceived
  split_ifs with _ _ _ hclears
  · exact gives_next.mpr h
  · exact h.receiveByte hf l b
  · exact gives_next.mpr h.clockOut
  · have hfout : s.clockOut.FractionsKept := by
      unfold State.FractionsKept
      rw [State.clockOut_tariffs (by simpa using hclears)]
      exact hf
    exact h.clockOut.receiveByte hfout l b
  · exact gives_next.mpr h

/-! ### Lane events -/

theorem State.TableKept.leaveEvent (h : s.TableKept) (i : LaneNo) : Gives State.TableKept (execRotorLeave i s) := by
  refine gives_whenRunning h ?_
  exact h

theorem State.TableKept.midEvent (h : s.TableKept) (i : LaneNo) : Gives State.TableKept (execMid i s) := by
  refine gives_whenRunning h ?_
  dsimp only
  split_ifs
  · exact State.TableKept.endHead (s := s.modLane i _) h i _
  · exact h
  · exact h

theorem State.TableKept.returnEvent (h : s.TableKept) (i : LaneNo) : Gives State.TableKept (execReturnToHome i s) := by
  refine gives_whenRunning h ?_
  split_ifs
  · split
    · exact h.returnHome i _
    · exact h
  · exact h

theorem State.TableKept.sampleEvent (h : s.TableKept) (i : LaneNo) (level : Nat) :
    Gives State.TableKept (execBeamSample i level s) := by
  refine gives_whenRunning h ?_
  dsimp only
  split
  · exact h
  · split
    · exact State.TableKept.detect (s := s.modLane i _) h i _
    · exact h

theorem State.TableKept.beamBlockedEvent (h : s.TableKept) (i : LaneNo) :
    Gives State.TableKept (execBeamBlockedExpiry i s) := by
  refine gives_whenRunning h ?_
  dsimp only
  split
  · exact h
  · simpa using h

theorem State.TableKept.settleEvent (h : s.TableKept) (i : LaneNo) (home : Bool) :
    Gives State.TableKept (execSettleExpiry i home s) := by
  refine gives_whenRunning h ?_
  dsimp only
  split
  · exact h
  · split
    · simpa using h
    · exact State.TableKept.enterFault (s := (s.waitUntil _).modLane i _) h i _

theorem State.TableKept.lifeEvent (h : s.TableKept) (i : LaneNo) (credit : Nat) :
    Gives State.TableKept (execCreditLifeExpiry i credit s) := by
  refine gives_whenRunning h ?_
  dsimp only
  split
  · exact h
  · split
    · exact State.TableKept.endHead (s := s.waitUntil _) h i _
    · exact State.TableKept.endCredit (s := s.waitUntil _) h i _ _

theorem State.TableKept.unlockStartEvent (h : s.TableKept) (i : LaneNo) :
    Gives State.TableKept (execUnlockStart i s) := by
  refine gives_whenRunning h ?_
  split
  · exact h
  · split
    · simpa using h
    · exact h

theorem State.TableKept.unlockEndEvent (h : s.TableKept) (i : LaneNo) : Gives State.TableKept (execUnlockEnd i s) := by
  refine gives_whenRunning h ?_
  split
  · exact h
  · split
    · exact State.TableKept.endHead (s := s.waitUntil _) h i _
    · exact h
    · exact h

theorem State.TableKept.passageLimitEvent (h : s.TableKept) (i : LaneNo) :
    Gives State.TableKept (execPassageLimitExpiry i s) := by
  refine gives_whenRunning h ?_
  dsimp only
  split
  · exact h
  · exact State.TableKept.detect (s := (s.waitUntil _).modLane i _) h i _

theorem State.TableKept.silenceEvent (h : s.TableKept) (i : LaneNo) :
    Gives State.TableKept (execSilenceExpiry i s) := by
  refine gives_whenRunning h ?_
  dsimp only
  split
  · exact h
  · simp only [State.tableKept_raiseAt, State.tableKept_append]
    exact State.TableKept.withdraw (s := (s.waitUntil _).modLane i _) h i _ _

/-! ### The pacer, answers and starts -/

theorem State.TableKept.edgeEvent (h : s.TableKept) : Gives State.TableKept (execCarrierEdge s) := by
  refine gives_whenRunning h ?_
  split
  · exact h
  · split
    · exact h
    · exact h.acceptEdge _
    · exact h.acceptEdge _

theorem State.TableKept.lostWatchEvent (h : s.TableKept) : Gives State.TableKept (execLostWatchExpiry s) := by
  refine gives_whenRunning h ?_
  dsimp only
  split
  · simp only [State.tableKept_raise, State.tableKept_append]
    exact h
  · exact h

theorem State.TableKept.discardedEvent (h : s.TableKept) (l : LinkNo) :
    Gives State.TableKept (execFrameDiscarded l s) := by
  refine gives_whenRunning h ?_
  split <;> exact h

theorem State.TableKept.byteErrorEvent (h : s.TableKept) (l : LinkNo) : Gives State.TableKept (execByteError l s) := by
  refine gives_whenRunning h ?_
  split <;> exact h

theorem State.TableKept.chipSelectEvent (h : s.TableKept) : Gives State.TableKept (execChipSelectRelease s) := by
  refine gives_whenRunning h ?_
  exact h

theorem State.TableKept.gapEvent (h : s.TableKept) (l : LinkNo) : Gives State.TableKept (execFrameGapExpiry l s) := by
  refine gives_whenRunning h ?_
  split
  · exact h
  · split <;> exact h

theorem State.TableKept.sendBeginEvent (h : s.TableKept) (l : LinkNo) :
    Gives State.TableKept (execAnswerSendBegin l s) := by
  refine gives_whenRunning h ?_
  dsimp only
  split
  · exact h
  · split_ifs <;> exact h

theorem State.TableKept.sentEvent (h : s.TableKept) (l : LinkNo) : Gives State.TableKept (execAnswerSent l s) := by
  refine gives_whenRunning h ?_
  split
  · exact h
  · split
    · exact h
    · exact h.officeSent _

theorem State.TableKept.clearAllEvent (h : s.TableKept) : Gives State.TableKept (execClearAllStart s) := by
  refine gives_whenRunning h ?_
  split
  · exact h.clearAllSent _
  · exact h

theorem State.TableKept.powerUpEvent (h : s.TableKept) (retainOk : Bool) :
    Gives State.TableKept (execPowerUp retainOk s) := by
  refine gives_next.mpr ?_
  split
  case h_2 => exact h.start _ _
  all_goals exact h

theorem State.TableKept.resetAssertedEvent (h : s.TableKept) : Gives State.TableKept (execResetAsserted s) := by
  refine gives_next.mpr ?_
  split <;> exact h

theorem State.TableKept.resetReleasedEvent (h : s.TableKept) : Gives State.TableKept (execResetReleased s) := by
  refine gives_next.mpr ?_
  split
  case h_1 | h_2 => exact h.start _ _
  all_goals exact h

theorem State.TableKept.powerLossEvent (h : s.TableKept) : Gives State.TableKept (execPowerLoss s) := by
  refine gives_next.mpr ?_
  split <;> exact h

/-! ### The step -/

/-- A command that is no request. -/
theorem State.TableKept.event (h : s.TableKept) (hf : s.FractionsKept) {c : Instr} (hc : requestAction c = none) :
    Gives State.TableKept (exec c s) := by
  cases c <;> cases hc
  case frameDiscarded => exact h.discardedEvent _
  case frameGapExpiry => exact h.gapEvent _
  case byteError => exact h.byteErrorEvent _
  case chipSelectRelease => exact h.chipSelectEvent
  case answerSendBegin => exact h.sendBeginEvent _
  case answerSent => exact h.sentEvent _
  case rotorLeave => exact h.leaveEvent _
  case mid => exact h.midEvent _
  case returnToHome => exact h.returnEvent _
  case beamSample => exact h.sampleEvent _ _
  case carrierEdge => exact h.edgeEvent
  case settleExpiry => exact h.settleEvent _ _
  case creditLifeExpiry => exact h.lifeEvent _ _
  case unlockStart => exact h.unlockStartEvent _
  case unlockEnd => exact h.unlockEndEvent _
  case passageLimitExpiry => exact h.passageLimitEvent _
  case silenceExpiry => exact h.silenceEvent _
  case beamBlockedExpiry => exact h.beamBlockedEvent _
  case lostWatchExpiry => exact h.lostWatchEvent
  case powerUp => exact h.powerUpEvent _
  case resetAsserted => exact h.resetAssertedEvent
  case resetReleased => exact h.resetReleasedEvent
  case powerLoss => exact h.powerLossEvent
  case clearAllStart => exact h.clearAllEvent
  case byteReceived => exact h.byteReceived hf _ _

theorem State.TableKept.exec (h : s.TableKept) (hf : s.FractionsKept) (c : Instr) :
    Gives State.TableKept (exec c s) := by
  cases hc : requestAction c with
  | none => exact h.event hf hc
  | some x =>
    obtain ⟨l, code, tag, act⟩ := x
    rw [exec_requestAction hc]
    exact h.takeFrame hf (keepsTable_requestAction hc) l code tag

theorem State.TableKept.step (h : s.TableKept) (hf : s.FractionsKept) : Gives State.TableKept (step s) := by
  unfold Machine.step
  split
  · rw [gives_next]
    unfold idle
    split <;> exact h
  · rename_i c rest _
    exact State.TableKept.exec (s := { s with pending := rest }) h hf c

end Sys2Proof.Machine

namespace Sys2Proof.Machine

/-- Settles O54: the pass list and the free count keep `TableLaw` through every action and event; the range of the class
records' fractions bounds a settled refund. -/
theorem passTableLawsAreKept : Obligations.PassTableLawsAreKept := by
  intro s t hpool hrecords hrange hstep
  have hkept : s.TableKept := s.tableKept_iff.mpr ⟨hpool, hrecords⟩
  exact t.tableKept_iff.mp (hkept.step hrange.fractionsKept t hstep)

end Sys2Proof.Machine

/-! ## Requests that are acted on -/

namespace Sys2Proof.Machine

/-! ### What a taken frame leaves to read -/

@[simp] theorem State.taken_passes (s : State) (l : LinkNo) : (s.taken l).passes = s.passes := by
  rw [State.taken_eq]
@[simp] theorem State.taken_free (s : State) (l : LinkNo) : (s.taken l).free = s.free := by rw [State.taken_eq]

@[simp] theorem State.taken_findPass (s : State) (l : LinkNo) (n : Nat) : (s.taken l).findPass n = s.findPass n := by
  simp [State.findPass]

/-- A request of R178 on a link that takes it, whose role may make it, is acted on and answered. -/
theorem exec_taken {c : Instr} {l : LinkNo} {code tag : Nat} {act : State → State × Answer} {s : State}
    (hc : requestAction c = some (l, code, tag, act)) (h : Takes s l) (hcode : (bodyLength code).isSome = true)
    (hrole : roleMay code (roleOf l) = true) :
    exec c s = .next ((act (s.taken l)).1.reply l code tag (act (s.taken l)).2) :=
  (exec_requestAction hc s).trans (takeFrame_taken h hcode hrole)

/-! ### Requests that name a pass (R3, R10) -/

theorem passNumberOk_iff {n : Nat} : passNumberOk n = true ↔ 1 ≤ n ∧ n ≤ 4294967294 := by simp [passNumberOk]

section OnPass
variable {n : Nat} {act : Pass → State → State × Answer} {s : State}

theorem onPass_outOfRange (h : passNumberOk n ≠ true) : onPass n act s = (s, .outOfRange) := if_pos h

theorem onPass_unknown (h : passNumberOk n = true) (hp : s.findPass n = none) : onPass n act s = (s, .unknownPass) := by
  simp [onPass, h, hp]

theorem onPass_found (h : passNumberOk n = true) {p : Pass} (hp : s.findPass n = some p) :
    onPass n act s = act p s := by
  simp [onPass, h, hp]

variable {c : Instr} {code tag : Nat} (hc : requestAction c = some (officeLink, code, tag, onPass n act))
  (ht : Takes s officeLink) (hcode : (bodyLength code).isSome = true) (hrole : roleMay code (roleOf officeLink) = true)
include hc ht hcode hrole

theorem exec_onPass_outOfRange (h : passNumberOk n ≠ true) :
    exec c s = .next (s.answered officeLink code tag .outOfRange) := by
  rw [exec_taken hc ht hcode hrole, onPass_outOfRange h]
  rfl

theorem exec_onPass_unknown (h : passNumberOk n = true) (hp : s.findPass n = none) :
    exec c s = .next (s.answered officeLink code tag .unknownPass) := by
  rw [exec_taken hc ht hcode hrole, onPass_unknown h (by simpa using hp)]
  rfl

theorem exec_onPass_found (h : passNumberOk n = true) {p : Pass} (hp : s.findPass n = some p) :
    exec c s = .next ((act p (s.taken officeLink)).1.reply officeLink code tag (act p (s.taken officeLink)).2) := by
  rw [exec_taken hc ht hcode hrole, onPass_found h (by simpa using hp)]

end OnPass

/-! ### Credits of a pass (R63) -/

theorem creditIn_eq_none {n : Nat} {q : List Credit} {k : Nat} : creditIn n q k = none ↔ ∀ c ∈ q, c.pass ≠ n := by
  induction q generalizing k with
  | nil => simp [creditIn]
  | cons c cs ih =>
    unfold creditIn
    split
    · simp_all
    · simp_all

theorem State.mem_credits {s : State} {c : Credit} : c ∈ s.credits ↔ ∃ i, c ∈ (s.lane i).queue := by
  simp [State.credits, Six.toList_eq, mem_allLanes, State.lane]

theorem State.creditOf_eq_none {s : State} {n : Nat} : s.creditOf n = none ↔ ∀ c ∈ s.credits, c.pass ≠ n := by
  simp only [State.creditOf, List.findSome?_eq_none_iff, Option.map_eq_none_iff, creditIn_eq_none, State.mem_credits]
  exact ⟨fun h c ⟨i, hc⟩ => h i (mem_allLanes i) c hc, fun h i _ c hc => h c ⟨i, hc⟩⟩

theorem State.queued_eq_length_credits (s : State) : s.queued = s.credits.length := by
  simp [State.queued, State.credits, List.length_flatMap]

end Sys2Proof.Machine

/-! ## The statements on the queue and on pass requests -/

namespace Sys2Proof.Machine

/-- Settles O1: a queue that is not empty is taken at its front. -/
theorem stepRunsTheFrontCommand : Obligations.StepRunsTheFrontCommand := by
  intro c rest s h
  unfold step
  rw [h]

/-! ### LOAD PASS (R11) -/

theorem loadInRange_iff {n cls days paid first last : Nat} :
    loadInRange n cls days paid first last = true ↔
      (1 ≤ n ∧ n ≤ 4294967294) ∧ cls ≤ 7 ∧ (1 ≤ days ∧ days ≤ 30) ∧ paid ≤ 1048575 ∧
        (1 ≤ first ∧ first ≤ 65535) ∧ (1 ≤ last ∧ last ≤ 65535) ∧ first ≤ last ∧ last ≤ first + 364 := by
  simp only [loadInRange, passNumberOk, classOk, daysOk, paidOk, dayOk, windowOk, Bool.and_eq_true, decide_eq_true_eq]
  tauto

/-- Settles O21: the five outcomes of `loadPass`, one for each check and one for the record created. -/
theorem loadPassChecksThenCreates : Obligations.LoadPassChecksThenCreates := by
  intro tag n check cls days paid first last s h inRange run
  have hrun : run = .next ((loadPass n check cls days paid first last (s.taken officeLink)).1.reply officeLink 16 tag
      (loadPass n check cls days paid first last (s.taken officeLink)).2) := exec_taken rfl h rfl rfl
  have hrange : loadInRange n cls days paid first last = true ↔ inRange := loadInRange_iff
  have hsize : Config.tableSize = 16384 := rfl
  rw [hrun]
  refine ⟨fun hr => ?_, fun hr ⟨p, hp, hn⟩ => ?_, fun hr hnew => ?_⟩
  · simp [loadPass, mt hrange.mp hr, State.answered]
  · have hdup : (s.findPass n).isSome = true := by
      simpa [State.findPass] using ⟨p, hp, hn⟩
    simp [loadPass, hrange.mpr hr, hdup, State.answered]
  · have hnone : s.findPass n = none := State.findPass_eq_none.mpr hnew
    refine ⟨fun hfull => ?_, fun hfits hpool => ?_, fun hfits hpool => ?_⟩
    · simp [loadPass, hrange.mpr hr, hnone, hsize, hfull, State.answered]
    · simp [loadPass, hrange.mpr hr, hnone, hsize, Nat.not_le_of_lt hfits, hpool, State.answered]
    · simp [loadPass, hrange.mpr hr, hnone, hsize, Nat.not_le_of_lt hfits, Nat.not_lt_of_le hpool, newPass]

/-! ### AMEND PASS (R12, R13) -/

theorem carried_any (presence b v : Nat) (f : Nat → Bool) :
    (carried presence b v).any f = (presence.testBit b && f v) := by
  unfold carried
  cases presence.testBit b <;> rfl

theorem carried_all (presence b v : Nat) (f : Nat → Bool) :
    (carried presence b v).all f = (!presence.testBit b || f v) := by
  unfold carried
  cases presence.testBit b <;> rfl

theorem carried_getD (presence b v old : Nat) :
    (carried presence b v).getD old = if presence.testBit b then v else old := by
  unfold carried
  split <;> rfl

theorem amendInRange_iff {n presence last days paid cls check : Nat} :
    amendInRange n presence (amendment presence last days paid cls check) = true ↔
      (1 ≤ n ∧ n ≤ 4294967294) ∧ presence < 32 ∧ (presence.testBit 0 = true → 1 ≤ last ∧ last ≤ 65535) ∧
        (presence.testBit 1 = true → 1 ≤ days ∧ days ≤ 30) ∧ (presence.testBit 2 = true → paid ≤ 1048575) ∧
        (presence.testBit 3 = true → cls ≤ 7) := by
  simp [amendInRange, amendment, carried_all, passNumberOk, classOk, daysOk, paidOk, dayOk, and_assoc, imp_iff_not_or]

/-- The checks of R12 on a record found, and the change of R13. -/
theorem amendPass_found {n presence : Nat} {a : Amendment} {s : State} {p : Pass}
    (hr : amendInRange n presence a = true) (hp : s.findPass n = some p) :
    amendPass n presence a s =
      if p.state = .surrendered then (s, .settled)
      else if a.lastDay.any fun d => !windowOk p.firstDay d then (s, .outOfRange)
      else if a.days.any (· < p.uses.length) then (s, .belowUse p.uses.length)
      else if a.days.any fun d => s.free < d - p.days then (s, .poolFull s.free)
      else
        ({ s with free := s.free + p.days - a.days.getD p.days }.modPass n (Pass.amend a),
          .amended (bump p.generation) (s.free + p.days - a.days.getD p.days)) := by
  simp [amendPass, hr, hp]

/-- Settles O22: the refusals of `amendPass` in their order, and the record it writes. -/
theorem amendPassChecksThenReplaces : Obligations.AmendPassChecksThenReplaces := by
  intro tag n presence last days paid cls check s h has inRange run
  let a := amendment presence last days paid cls check
  have hrun : run = .next ((amendPass n presence a (s.taken officeLink)).1.reply officeLink 17 tag
      (amendPass n presence a (s.taken officeLink)).2) := exec_taken rfl h rfl rfl
  have hrange : amendInRange n presence a = true ↔ inRange := amendInRange_iff
  rw [hrun]
  refine ⟨fun hr => ?_, fun hr hnone => ?_, fun p hr hp => ?_⟩
  · simp [amendPass, mt hrange.mp hr, State.answered]
  · simp [amendPass, hrange.mpr hr, hnone, State.answered]
  · intro badDay newDays
    have hday : (a.lastDay.any fun d => !windowOk p.firstDay d) = true ↔ badDay := by
      simp only [a, badDay, has, amendment, carried_any, windowOk, Bool.and_eq_true, Bool.not_eq_true',
        Bool.and_eq_false_iff, decide_eq_false_iff_not, not_and_or]
    have huse : (a.days.any fun d => d < p.uses.length) = true ↔ has 1 ∧ days < p.uses.length := by
      simp [a, has, amendment, carried_any]
    have hpool : (a.days.any fun d => (s.taken officeLink).free < d - p.days) = true ↔
        has 1 ∧ s.free + p.days < days := by
      simp [a, has, amendment, carried_any, Nat.lt_sub_iff_add_lt]
    rw [amendPass_found (hrange.mpr hr) (by simpa using hp)]
    refine ⟨fun hs => ?_, fun hs hbad => ?_, fun hs hgood h1 hlow => ?_, fun hs hgood hup h1 hfull => ?_,
      fun hs hgood hup => ?_⟩
    · rw [if_pos hs]; rfl
    · rw [if_neg hs, if_pos (hday.mpr hbad)]; rfl
    · rw [if_neg hs, if_neg (mt hday.mp hgood), if_pos (huse.mpr ⟨h1, hlow⟩)]; rfl
    · have hlow : ¬ (has 1 ∧ days < p.uses.length) := fun ⟨_, hlt⟩ => Nat.not_lt_of_le (hup h1) hlt
      rw [if_neg hs, if_neg (mt hday.mp hgood), if_neg (mt huse.mp hlow), if_pos (hpool.mpr ⟨h1, hfull⟩)]
      rfl
    · have hlow : ¬ (has 1 ∧ days < p.uses.length) := fun ⟨h1, hlt⟩ => Nat.not_lt_of_le (hup h1).1 hlt
      have hfull : ¬ (has 1 ∧ s.free + p.days < days) := fun ⟨h1, hlt⟩ => Nat.not_lt_of_le (hup h1).2 hlt
      rw [if_neg hs, if_neg (mt hday.mp hgood), if_neg (mt huse.mp hlow), if_neg (mt hpool.mp hfull)]
      simp [newDays, State.modPass, Pass.amend, bump, a, amendment, carried_getD]

/-! ### The number checks (R3) -/

/-- Settles O23: the six requests are one `onPass` each. -/
theorem passRequestsCheckTheNumber : Obligations.PassRequestsCheckTheNumber := by
  intro tag n generation s h bad
  have hbad : passNumberOk n = true ↔ ¬ bad := by
    rw [passNumberOk_iff]
    omega
  refine ⟨fun hb => ?_, fun hb hnew => ?_⟩
  · have hn : passNumberOk n ≠ true := mt hbad.mp (not_not_intro hb)
    exact ⟨exec_onPass_outOfRange rfl h rfl rfl hn, exec_onPass_outOfRange rfl h rfl rfl hn,
      exec_onPass_outOfRange rfl h rfl rfl hn, exec_onPass_outOfRange rfl h rfl rfl hn,
      exec_onPass_outOfRange rfl h rfl rfl hn, exec_onPass_outOfRange rfl h rfl rfl hn⟩
  · have hn : passNumberOk n = true := hbad.mpr hb
    have hnone : s.findPass n = none := State.findPass_eq_none.mpr hnew
    exact ⟨exec_onPass_unknown rfl h rfl rfl hn hnone, exec_onPass_unknown rfl h rfl rfl hn hnone,
      exec_onPass_unknown rfl h rfl rfl hn hnone, exec_onPass_unknown rfl h rfl rfl hn hnone,
      exec_onPass_unknown rfl h rfl rfl hn hnone, exec_onPass_unknown rfl h rfl rfl hn hnone⟩

/-! ### BLOCK, UNBLOCK and PURGE PASS (R14 to R17) -/

theorem Credit.notUnlocked_iff {c : Credit} : c.notUnlocked = true ↔ c.state = .holding ∨ c.state = .released := by
  simp [Credit.notUnlocked]

theorem blockPass_surrendered {p : Pass} {s : State} (h : p.state = .surrendered) : blockPass p s = (s, .settled) :=
  if_pos h

theorem blockPass_noCredit {p : Pass} {s : State} (h : p.state ≠ .surrendered) (hc : s.creditOf p.number = none) :
    blockPass p s = (s.modPass p.number fun q => { q with state := .blocked }, .blocked .none) := by
  simp [blockPass, h, hc]

theorem blockPass_running {p : Pass} {s : State} {i : LaneNo} {place : Nat} {c : Credit} (h : p.state ≠ .surrendered)
    (hc : s.creditOf p.number = some (i, place, c)) (hrun : c.notUnlocked ≠ true) :
    blockPass p s =
      (s.modPass p.number fun q => { q with state := .blocked }, .blocked (.running i c.number c.state)) := by
  simp [blockPass, h, hc, hrun]

theorem blockPass_withdrawn {p : Pass} {s : State} {i : LaneNo} {place : Nat} {c : Credit} (h : p.state ≠ .surrendered)
    (hc : s.creditOf p.number = some (i, place, c)) (hwait : c.notUnlocked = true) :
    blockPass p s =
      (if place = 0 then
          (s.modPass p.number fun q => { q with state := .blocked }).endHead i (.withdrawn .passBlocked)
        else (s.modPass p.number fun q => { q with state := .blocked }).endCredit i place (.withdrawn .passBlocked),
        .blocked (.withdrawn i c.number)) := by
  simp [blockPass, h, hc, hwait]

theorem purgePass_pending {p : Pass} {s : State} {i : LaneNo} {place : Nat} {c : Credit}
    (hc : s.creditOf p.number = some (i, place, c)) : purgePass p s = (s, .creditPending i c.number) := by
  simp [purgePass, hc]

theorem purgePass_removed {p : Pass} {s : State} (hc : s.creditOf p.number = none) :
    purgePass p s =
      ({ s with passes := removePass p.number s.passes, free := s.free + p.days }, .purged (s.free + p.days)) := by
  simp [purgePass, hc]

/-- Settles O24: the record found, then the pass state and the credit state decide. -/
theorem blockUnblockAndPurgePass : Obligations.BlockUnblockAndPurgePass := by
  intro tag n s p h hlo hhi hp run t
  have hn : passNumberOk n = true := passNumberOk_iff.mpr ⟨hlo, hhi⟩
  obtain ⟨-, rfl⟩ := State.findPass_eq_some hp
  have hrun : run = .next ((blockPass p (s.taken officeLink)).1.reply officeLink 18 tag
      (blockPass p (s.taken officeLink)).2) := exec_onPass_found rfl h rfl rfl hn hp
  have hpurge : exec (.purgePass officeLink tag p.number) s =
      .next ((purgePass p (s.taken officeLink)).1.reply officeLink 20 tag (purgePass p (s.taken officeLink)).2) :=
    exec_onPass_found rfl h rfl rfl hn hp
  rw [hrun, hpurge]
  refine ⟨fun hs => ?_, fun hs => ⟨fun hc => ?_, fun i place c hc => ⟨fun hstate => ?_, fun hstate => ?_⟩⟩, ?_,
    fun i place c hc => ?_, fun hc => ?_⟩
  · rw [blockPass_surrendered hs]; rfl
  · rw [blockPass_noCredit (s := s.taken officeLink) hs (State.creditOf_eq_none.mpr hc)]; rfl
  · have hgone : c.notUnlocked ≠ true := fun hw => by
      rcases Credit.notUnlocked_iff.mp hw with e | e <;> simp [e] at hstate
    rw [blockPass_running (s := s.taken officeLink) hs hc hgone]; rfl
  · rw [blockPass_withdrawn (s := s.taken officeLink) hs hc (Credit.notUnlocked_iff.mpr hstate)]; rfl
  · rw [exec_onPass_found (c := .unblockPass officeLink tag p.number) rfl h rfl rfl hn hp]
    unfold unblockPass
    split <;> rfl
  · rw [purgePass_pending (s := s.taken officeLink) hc]; rfl
  · rw [purgePass_removed (s := s.taken officeLink) (State.creditOf_eq_none.mpr hc)]; rfl

/-! ### The requests that read (R18, R51, R99, R122, R140, R184) -/

theorem laneOf_val (i : LaneNo) : laneOf i.val = some i := by simp [laneOf]

theorem selected_lane (i : LaneNo) : selected i.val = some [i] := by
  have hi : i.val ≠ 255 := by omega
  simp [selected, hi, laneOf_val]

theorem selected_none {k : Nat} (hk : 6 ≤ k) (hall : k ≠ 255) : selected k = none := by
  simp [selected, hall, laneOf, Nat.not_lt_of_le hk]

/-- The links that are not a lane's are the office's and the console's (R169). -/
theorem office_or_console {l : LinkNo} (h : 6 ≤ l.val) : l = officeLink ∨ l = consoleLink := by
  have hl := l.isLt
  rcases Nat.lt_or_ge l.val 7 with hlt | hge
  · exact .inl (Fin.ext (show l.val = 6 by omega))
  · exact .inr (Fin.ext (show l.val = 7 by omega))

/-- Settles O35: each reading request is a report on the state its frame leaves, which differs in the link alone. -/
theorem readsReportWhatIsHeld : Obligations.ReadsReportWhatIsHeld := by
  intro tag s
  refine ⟨fun h => ⟨fun n p hlo hhi hp => ?_, ?_, ?_⟩, fun h => ⟨?_, fun i => ?_⟩, fun l hl h => ?_, fun l hl h => ?_⟩
  · obtain ⟨-, rfl⟩ := State.findPass_eq_some hp
    exact exec_onPass_found (c := .readPass officeLink tag p.number) rfl h rfl rfl
      (passNumberOk_iff.mpr ⟨hlo, hhi⟩) hp
  · rw [exec_taken (c := .readDay officeLink tag) rfl h rfl rfl, ← State.queued_eq_length_credits]
    rfl
  · exact exec_taken (c := .readStart officeLink tag) rfl h rfl rfl
  · exact exec_taken (c := .readLift consoleLink tag) rfl h rfl rfl
  · rw [exec_taken (c := .readLane consoleLink tag i.val) rfl h rfl rfl, onLane, laneOf_val]
    rfl
  · have hrole : roleOf l = .lane := if_pos hl
    rw [exec_taken (c := .hello l tag) rfl h rfl (by rw [hrole]; rfl), report, hrole]
    rfl
  · have hrole : roleMay 7 (roleOf l) = true := by
      rcases office_or_console hl with rfl | rfl <;> rfl
    have hrun : ∀ k, exec (.readCounts l tag k) s = .next ((readCounts l k (s.taken l)).1.reply l 7 tag
        (readCounts l k (s.taken l)).2) := fun k => exec_taken rfl h rfl hrole
    refine ⟨fun i => ?_, ?_, fun k hk hall => ?_⟩
    · rw [hrun, readCounts, selected_lane]
      rcases office_or_console hl with rfl | rfl <;> rfl
    · rw [hrun]
      rcases office_or_console hl with rfl | rfl <;> rfl
    · rw [hrun, readCounts, selected_none hk hall]
      rfl

end Sys2Proof.Machine

/-! ## What the queues hold for the credit laws

`CreditLaw` reads of a credit its pass and whether it carries a first-use link: its ticket. Most operations leave every
lane's tickets and the pass list as they were; `TicketLaw` says the law of a pass list and the tickets, in any order. -/

namespace Sys2Proof.Machine

/-! ### Queues after an update of a lane -/

@[simp] theorem LaneUnit.follow_queue (u : LaneUnit) : u.follow.queue = u.queue := by
  unfold LaneUnit.follow; split <;> rfl
@[simp] theorem LaneUnit.offIfDrained_queue (u : LaneUnit) : u.offIfDrained.queue = u.queue := by
  unfold LaneUnit.offIfDrained; split <;> rfl
@[simp] theorem LaneUnit.watchBeam_queue (now : Nat) (u : LaneUnit) : (u.watchBeam now).queue = u.queue := by
  unfold LaneUnit.watchBeam; split <;> rfl
@[simp] theorem LaneUnit.reclassify_queue (now : Nat) (before after : Beam) (u : LaneUnit) :
    (u.reclassify now before after).queue = u.queue := by
  unfold LaneUnit.reclassify
  dsimp only
  split_ifs
  · rw [LaneUnit.watchBeam_queue]
  · rfl
  · rfl
@[simp] theorem LaneUnit.revive_queue (now : Nat) (u : LaneUnit) : (u.revive now).queue = u.queue := by
  simp [LaneUnit.revive]
@[simp] theorem LaneUnit.atHome_queue (u : LaneUnit) : u.atHome.queue = u.queue := by simp [LaneUnit.atHome]
@[simp] theorem LaneUnit.markMid_queue (now : Nat) (u : LaneUnit) : (u.markMid now).queue = u.queue := by
  simp [LaneUnit.markMid]
@[simp] theorem LaneUnit.markEndPassed_queue (u : LaneUnit) : u.markEndPassed.queue = u.queue := by
  simp [LaneUnit.markEndPassed]
@[simp] theorem LaneUnit.settledHome_queue (u : LaneUnit) : u.settledHome.queue = u.queue := by
  simp [LaneUnit.settledHome]
@[simp] theorem LaneUnit.settledAway_queue (now : Nat) (u : LaneUnit) : (u.settledAway now).queue = u.queue := by
  simp [LaneUnit.settledAway]
@[simp] theorem LaneUnit.toOff_queue (u : LaneUnit) : u.toOff.queue = u.queue := by simp [LaneUnit.toOff]
@[simp] theorem LaneUnit.toSettling_queue (now : Nat) (u : LaneUnit) : (u.toSettling now).queue = u.queue := by
  simp [LaneUnit.toSettling]
@[simp] theorem LaneUnit.store_queue (now : Nat) (c : LaneConfig) (u : LaneUnit) : (u.store now c).queue = u.queue := by
  simp [LaneUnit.store]
@[simp] theorem LaneUnit.restart_queue (u : LaneUnit) : u.restart.queue = [] := rfl
@[simp] theorem LaneUnit.enqueue_queue (c : Credit) (u : LaneUnit) : (u.enqueue c).queue = u.queue ++ [c] := by
  simp [LaneUnit.enqueue]

/-- A lane unit after the end of the credit at a place of its queue, the offer of a new head left aside (R103). -/
def LaneUnit.ended (place : Nat) (c : Credit) (o : CreditOutcome) (u : LaneUnit) : LaneUnit :=
  LaneUnit.offIfDrained <| LaneUnit.follow
    { u.dequeue place c with counts := u.counts.countOutcome o, lastEnded := some (c.number, o) }

@[simp] theorem LaneUnit.ended_queue (place : Nat) (c : Credit) (o : CreditOutcome) (u : LaneUnit) :
    (u.ended place c o).queue = u.queue.eraseIdx place := by
  simp [LaneUnit.ended, LaneUnit.dequeue]

/-! ### Tickets -/

/-- A credit's pass, and whether it carries a first-use link. -/
def Credit.ticket (c : Credit) : Nat × Bool := (c.pass, c.firstUse.isSome)

/-- The tickets of a lane's queue. -/
def LaneUnit.tickets (u : LaneUnit) : List (Nat × Bool) := u.queue.map Credit.ticket

theorem LaneUnit.tickets_of_queue {u v : LaneUnit} (h : v.queue = u.queue) : v.tickets = u.tickets := by
  rw [LaneUnit.tickets, h, LaneUnit.tickets]

/-- A change of the head credit that keeps its pass and its link keeps the tickets. -/
theorem LaneUnit.modHead_tickets (u : LaneUnit) {f : Credit → Credit} (hf : ∀ c, (f c).ticket = c.ticket) :
    (u.modHead f).tickets = u.tickets := by
  unfold LaneUnit.modHead
  split
  · rfl
  · rename_i c cs hq
    simp [LaneUnit.tickets, hq, hf]

@[simp] theorem LaneUnit.startUnlock_tickets (u : LaneUnit) (now : Nat) : (u.startUnlock now).tickets = u.tickets :=
  u.modHead_tickets fun _ => rfl
@[simp] theorem LaneUnit.release_tickets (u : LaneUnit) (now : Nat) (slot : Option Nat) (earliest : Nat) :
    (u.modHead (Credit.release now slot earliest)).tickets = u.tickets := u.modHead_tickets fun _ => rfl
@[simp] theorem LaneUnit.leave_tickets (now : Nat) (u : LaneUnit) : (u.leave now).tickets = u.tickets := by
  unfold LaneUnit.leave
  dsimp only
  split_ifs
  · exact LaneUnit.modHead_tickets _ fun _ => rfl
  · rfl
  · rfl
@[simp] theorem LaneUnit.liftStop_tickets (now : Nat) (u : LaneUnit) : (u.liftStop now).tickets = u.tickets := by
  have hc : ∀ (t : Nat) (c : Credit), (c.toHolding t).ticket = c.ticket := fun t c => by
    unfold Credit.toHolding; split <;> rfl
  simp [LaneUnit.liftStop, LaneUnit.tickets, hc]

/-- The tickets of the six queues, lane 0 first. -/
def State.tickets (s : State) : List (Nat × Bool) := allLanes.flatMap fun i => (s.lane i).tickets

theorem State.map_ticket_credits (s : State) : s.credits.map Credit.ticket = s.tickets := by
  simp [State.credits, State.tickets, Six.toList_eq, List.map_flatMap, List.flatMap_map, LaneUnit.tickets, State.lane]

theorem State.tickets_congr {s t : State} (h : ∀ i, (t.lane i).tickets = (s.lane i).tickets) :
    t.tickets = s.tickets := by
  unfold State.tickets
  simp only [h]

theorem State.mem_tickets_of_credit {s : State} {n : Nat} :
    n ∈ s.tickets.map Prod.fst ↔ ∃ c ∈ s.credits, c.pass = n := by
  simp [← State.map_ticket_credits, Credit.ticket]

/-- The tickets of the lanes but one. -/
def State.ticketsElsewhere (s : State) (i : LaneNo) : List (Nat × Bool) :=
  (allLanes.erase i).flatMap fun j => (s.lane j).tickets

/-- One lane's tickets beside those of the others. -/
theorem State.tickets_perm (s : State) (i : LaneNo) : s.tickets.Perm ((s.lane i).tickets ++ s.ticketsElsewhere i) :=
  (List.perm_cons_erase (mem_allLanes i)).flatMap_right _

theorem State.ticketsElsewhere_congr {s t : State} {i : LaneNo}
    (h : ∀ j, j ≠ i → (t.lane j).tickets = (s.lane j).tickets) : t.ticketsElsewhere i = s.ticketsElsewhere i := by
  have hne : ∀ j ∈ allLanes.erase i, j ≠ i := fun j hj => ((List.Nodup.mem_erase_iff (by decide)).mp hj).1
  unfold State.ticketsElsewhere
  exact List.flatMap_congr fun j hj => h j (hne j hj)

/-! ### The law of a pass list and tickets -/

/-- `CreditLaw` of a pass list and tickets, with the pass numbers unique. -/
structure TicketLaw (ps : List Pass) (ts : List (Nat × Bool)) : Prop where
  ascending : ps.Pairwise fun p q => p.number < q.number
  single : (ts.map Prod.fst).Nodup
  record : ∀ n ∈ ts.map Prod.fst, ∃ p ∈ ps, p.number = n ∧ p.state ≠ .surrendered
  tentative : ∀ p ∈ ps, tentatives p.uses = ts.count (p.number, true)

theorem TicketLaw.perm {ps : List Pass} {ts us : List (Nat × Bool)} (h : TicketLaw ps ts) (hp : ts.Perm us) :
    TicketLaw ps us where
  ascending := h.ascending
  single := ((hp.map Prod.fst).nodup_iff).mp h.single
  record := fun n hn => h.record n ((hp.map Prod.fst).mem_iff.mpr hn)
  tentative := fun p hq => (h.tentative p hq).trans (hp.count_eq _)

/-- The state keeps `CreditLaw` and unique pass numbers. -/
def State.CreditsKept (s : State) : Prop := TicketLaw s.passes s.tickets

theorem State.linked_eq_count (s : State) (n : Nat) : s.linked n = s.tickets.count (n, true) := by
  rw [← State.map_ticket_credits, State.linked, List.count_eq_countP, List.countP_map]
  congr 1
  funext c
  rw [Bool.eq_iff_iff]
  simp [Credit.ticket]

theorem State.creditsKept_iff (s : State) :
    s.CreditsKept ↔ s.passes.Pairwise (fun p q => p.number < q.number) ∧ CreditLaw s := by
  have hpass : s.tickets.map Prod.fst = s.credits.map Credit.pass := by
    rw [← State.map_ticket_credits, List.map_map]; rfl
  constructor
  · intro ⟨a, u, r, t⟩
    rw [hpass] at u r
    exact ⟨a, u, fun c hc => r c.pass (List.mem_map_of_mem hc), fun p hp => (t p hp).trans (s.linked_eq_count _).symm⟩
  · intro ⟨a, u, r, t⟩
    refine ⟨a, hpass ▸ u, fun n hn => ?_, fun p hp => (t p hp).trans (s.linked_eq_count _)⟩
    obtain ⟨c, hc, rfl⟩ := List.mem_map.mp (hpass ▸ hn)
    exact r c hc

/-- The pass list and each lane's tickets decide. -/
theorem State.creditsKept_congr {s t : State} (hp : t.passes = s.passes)
    (hl : ∀ i, (t.lane i).tickets = (s.lane i).tickets) : t.CreditsKept ↔ s.CreditsKept := by
  unfold State.CreditsKept
  rw [hp, State.tickets_congr hl]

/-! ### Changes of records and tickets -/

variable {ps : List Pass} {ts us : List (Nat × Bool)}

/-- Records changed, with their numbers kept, beside other tickets. -/
theorem TicketLaw.change (h : TicketLaw ps ts) {f : Pass → Pass} (hnum : ∀ p ∈ ps, (f p).number = p.number)
    (hsingle : (us.map Prod.fst).Nodup)
    (hrecord : ∀ n ∈ us.map Prod.fst, ∃ p ∈ ps, p.number = n ∧ (f p).state ≠ .surrendered)
    (hcount : ∀ p ∈ ps, tentatives (f p).uses = us.count (p.number, true)) : TicketLaw (ps.map f) us where
  ascending := pairwise_map_number h.ascending hnum
  single := hsingle
  record := fun n hn => by
    obtain ⟨p, hp, hpn, hs⟩ := hrecord n hn
    exact ⟨f p, List.mem_map_of_mem hp, (hnum p hp).trans hpn, hs⟩
  tentative := List.forall_mem_map.mpr fun p hp => by rw [hnum p hp]; exact hcount p hp

/-- A record in another's place that no ticket tells apart: the same number and TENTATIVE entries, and not SURRENDERED
unless the other was. -/
structure KeepsTicket (p q : Pass) : Prop where
  number : q.number = p.number
  state : p.state ≠ .surrendered → q.state ≠ .surrendered
  uses : tentatives q.uses = tentatives p.uses

theorem KeepsTicket.refl (p : Pass) : KeepsTicket p p := ⟨rfl, id, rfl⟩

theorem TicketLaw.map (h : TicketLaw ps ts) {f : Pass → Pass} (hf : ∀ p ∈ ps, KeepsTicket p (f p)) :
    TicketLaw (ps.map f) ts :=
  h.change (fun p hp => (hf p hp).number) h.single
    (fun n hn => by
      obtain ⟨p, hp, hpn, hs⟩ := h.record n hn
      exact ⟨p, hp, hpn, (hf p hp).state hs⟩)
    fun p hp => (hf p hp).uses.trans (h.tentative p hp)

theorem count_of_not_mem {n : Nat} (h : n ∉ ts.map Prod.fst) (b : Bool) : ts.count (n, b) = 0 :=
  List.count_eq_zero.mpr fun hm => h (List.mem_map_of_mem (f := Prod.fst) hm)

/-- A ticket goes, and with a first-use link the TENTATIVE entry of its pass (R27, R28). -/
theorem TicketLaw.drop {n : Nat} {b : Bool} (h : TicketLaw ps ((n, b) :: ts)) {f : Pass → Pass}
    (hnum : ∀ p, (f p).number = p.number) (hstate : ∀ p, (f p).state = p.state)
    (huses : ∀ p, tentatives (f p).uses = if b then 0 else tentatives p.uses) :
    TicketLaw (ps.map fun p => if p.number = n then f p else p) ts := by
  obtain ⟨hnew, hsingle⟩ := List.nodup_cons.mp h.single
  refine h.change (fun p _ => by split <;> simp [hnum]) hsingle (fun m hm => ?_) fun p hp => ?_
  · obtain ⟨p, hp, hpm, hs⟩ := h.record m (List.mem_cons_of_mem _ hm)
    exact ⟨p, hp, hpm, by split <;> simpa [hstate] using hs⟩
  · have hcount := h.tentative p hp
    rw [List.count_cons] at hcount
    split_ifs with hn
    · rw [hn, count_of_not_mem hnew] at hcount ⊢
      cases b <;> simp_all
    · have hne : ((n, b) == (p.number, true)) = false := by simp [Ne.symm hn]
      rw [hcount, hne]
      rfl

/-- A ticket comes for a pass that has none, and with a first-use link a TENTATIVE entry (R26, R63). -/
theorem TicketLaw.add {n : Nat} {b : Bool} (h : TicketLaw ps ts) (hnew : n ∉ ts.map Prod.fst) {f : Pass → Pass}
    (hrecord : ∃ p ∈ ps, p.number = n ∧ p.state ≠ .surrendered)
    (hnum : ∀ p, (f p).number = p.number) (hstate : ∀ p, (f p).state = p.state)
    (huses : ∀ p, tentatives (f p).uses = tentatives p.uses + if b then 1 else 0) :
    TicketLaw (ps.map fun p => if p.number = n then f p else p) ((n, b) :: ts) := by
  refine h.change (fun p _ => by split <;> simp [hnum]) (List.nodup_cons.mpr ⟨hnew, h.single⟩) (fun m hm => ?_)
    fun p hp => ?_
  · have hm' : ∃ p ∈ ps, p.number = m ∧ p.state ≠ .surrendered := by
      rcases List.mem_cons.mp hm with rfl | hm
      · exact hrecord
      · exact h.record m hm
    obtain ⟨p, hp, hpm, hs⟩ := hm'
    exact ⟨p, hp, hpm, by split <;> simpa [hstate] using hs⟩
  · have hcount := h.tentative p hp
    rw [List.count_cons]
    split_ifs with hn he he
    · rw [huses, hcount]
      cases b <;> simp_all
    · rw [huses, hcount]
      cases b <;> simp_all
    · simp_all
    · exact hcount

end Sys2Proof.Machine

/-! ## What events do to the tickets -/

namespace Sys2Proof.Machine

/-! ### Operations that leave passes and tickets alone -/

@[simp] theorem State.creditsKept_modLane_queue {s : State} {i : LaneNo} {f : LaneUnit → LaneUnit}
    (hf : ∀ u, (f u).queue = u.queue) : (s.modLane i f).CreditsKept ↔ s.CreditsKept :=
  State.creditsKept_congr rfl fun j => by
    rw [State.modLane_lane]
    split
    · subst_vars; exact LaneUnit.tickets_of_queue (hf _)
    · rfl

@[simp] theorem State.creditsKept_modLane {s : State} {i : LaneNo} {f : LaneUnit → LaneUnit}
    (hf : ∀ u, (f u).tickets = u.tickets) : (s.modLane i f).CreditsKept ↔ s.CreditsKept :=
  State.creditsKept_congr rfl fun j => by
    rw [State.modLane_lane]
    split
    · subst_vars; exact hf _
    · rfl

@[simp] theorem State.creditsKept_waitUntil (s : State) (t : Nat) : (s.waitUntil t).CreditsKept ↔ s.CreditsKept :=
  Iff.rfl
@[simp] theorem State.creditsKept_append (s : State) (b : JournalBody) : (s.append b).CreditsKept ↔ s.CreditsKept :=
  Iff.rfl
@[simp] theorem State.creditsKept_toDay (s : State) (d : DayState) :
    ({ s with day := d } : State).CreditsKept ↔ s.CreditsKept := Iff.rfl
@[simp] theorem State.creditsKept_idleReceiver (s : State) (l : LinkNo) :
    (s.idleReceiver l).CreditsKept ↔ s.CreditsKept := Iff.rfl
@[simp] theorem State.creditsKept_raise (s : State) (p : EventPair) : (s.raise p).CreditsKept ↔ s.CreditsKept :=
  State.creditsKept_congr (by simp) fun i => by simp
@[simp] theorem State.creditsKept_raiseAt (s : State) (k : LaneEvent) (i : LaneNo) :
    (s.raiseAt k i).CreditsKept ↔ s.CreditsKept := s.creditsKept_raise _
@[simp] theorem State.creditsKept_reply (s : State) (l : LinkNo) (code tag : Nat) (a : Answer) :
    (s.reply l code tag a).CreditsKept ↔ s.CreditsKept := State.creditsKept_congr (by simp) fun i => by simp
@[simp] theorem State.creditsKept_taken (s : State) (l : LinkNo) : (s.taken l).CreditsKept ↔ s.CreditsKept := by
  unfold State.taken State.reviveLink
  split
  · simp
  · rfl
@[simp] theorem State.creditsKept_answered (s : State) (l : LinkNo) (code tag : Nat) (a : Answer) :
    (s.answered l code tag a).CreditsKept ↔ s.CreditsKept := by simp [State.answered]

@[simp] theorem State.creditsKept_tryUnlock (s : State) (i : LaneNo) : (s.tryUnlock i).CreditsKept ↔ s.CreditsKept := by
  unfold State.tryUnlock
  split <;> simp
@[simp] theorem State.creditsKept_freeRelease (s : State) (i : LaneNo) :
    (s.freeRelease i).CreditsKept ↔ s.CreditsKept := by
  unfold State.freeRelease
  split <;> simp
@[simp] theorem State.creditsKept_freeReleaseAll (s : State) : s.freeReleaseAll.CreditsKept ↔ s.CreditsKept := by
  simp [State.freeReleaseAll, allLanes]
@[simp] theorem State.creditsKept_releaseInto (s : State) (k : Slot) (i : LaneNo) :
    (s.releaseInto k i).CreditsKept ↔ s.CreditsKept := by
  have hlane := State.creditsKept_modLane (s := s) (i := i)
    (f := fun u => u.modHead (Credit.release s.clock (some k.number) (max s.clock k.earliestUnlock)))
    fun u => u.release_tickets _ _ _
  unfold State.releaseInto
  dsimp only
  rw [State.creditsKept_tryUnlock]
  exact hlane
@[simp] theorem State.creditsKept_arbitrate (s : State) : s.arbitrate.CreditsKept ↔ s.CreditsKept := by
  have key : ∀ (n : Nat) (t : State), (arbitrateUpTo n t).CreditsKept ↔ t.CreditsKept := by
    intro n
    induction n with
    | zero => exact fun _ => Iff.rfl
    | succ n ih =>
      intro t
      unfold arbitrateUpTo
      split
      · rw [ih, State.creditsKept_releaseInto]
      · rfl
  exact key _ s
@[simp] theorem State.creditsKept_offer (s : State) (i : LaneNo) : (s.offer i).CreditsKept ↔ s.CreditsKept := by
  unfold State.offer
  split
  · split <;> simp
  · rfl
@[simp] theorem State.creditsKept_homeRelease (s : State) (i : LaneNo) :
    (s.homeRelease i).CreditsKept ↔ s.CreditsKept := by
  unfold State.homeRelease
  dsimp only
  split <;> simp

/-- The close of the day changes neither passes nor lanes. -/
@[simp] theorem State.closeIfDrained_passes (s : State) : s.closeIfDrained.passes = s.passes := by
  unfold State.closeIfDrained State.closeNow
  split <;> simp
@[simp] theorem State.closeIfDrained_lane (s : State) (i : LaneNo) : s.closeIfDrained.lane i = s.lane i := by
  unfold State.closeIfDrained State.closeNow
  split
  · simp [State.lane]
  · rfl
@[simp] theorem State.creditsKept_closeIfDrained (s : State) : s.closeIfDrained.CreditsKept ↔ s.CreditsKept :=
  State.creditsKept_congr (by simp) fun i => by simp

@[simp] theorem State.creditsKept_countUntagged (s : State) (i : LaneNo) (cause : UntaggedCause) :
    (s.countUntagged i cause).CreditsKept ↔ s.CreditsKept := by simp [State.countUntagged]
@[simp] theorem State.creditsKept_countBackout (s : State) (i : LaneNo) (r : Rotation) :
    (s.countBackout i r).CreditsKept ↔ s.CreditsKept := by simp [State.countBackout]
@[simp] theorem State.creditsKept_countRotation (s : State) (i : LaneNo) (left : Tracker) (r : Rotation) :
    (s.countRotation i left r).CreditsKept ↔ s.CreditsKept := by
  unfold State.countRotation
  dsimp only
  split_ifs <;> simp
@[simp] theorem State.creditsKept_laterCause (s : State) (i : LaneNo) (cause : FaultCause) :
    (s.laterCause i cause).CreditsKept ↔ s.CreditsKept := by
  unfold State.laterCause
  split <;> simp

/-! ### The end of a credit -/

theorem State.settleLink_modLane (s : State) (i : LaneNo) (f : LaneUnit → LaneUnit) (c : Credit) (o : CreditOutcome) :
    (s.modLane i f).settleLink c o = (s.settleLink c o).modLane i f := by
  unfold State.settleLink
  split <;> rfl

@[simp] theorem State.settleLink_lane (s : State) (c : Credit) (o : CreditOutcome) (i : LaneNo) :
    (s.settleLink c o).lane i = s.lane i := by
  unfold State.settleLink
  split <;> rfl

@[simp] theorem State.writePassage_lane (s : State) (i j : LaneNo) (c : Credit) :
    (s.writePassage i c).lane j = s.lane j := rfl

section EndCredit
variable {s : State} {i : LaneNo} {place : Nat} {o : CreditOutcome}

theorem State.endCredit_none (h : (s.lane i).queue[place]? = none) : s.endCredit i place o = s := by
  simp [State.endCredit, h]

variable {c : Credit}

/-- The end of a credit changes its own lane alone. -/
theorem State.endCredit_lane (h : (s.lane i).queue[place]? = some c) (j : LaneNo) :
    (s.endCredit i place o).lane j = if j = i then (s.lane i).ended place c o else s.lane j := by
  unfold State.endCredit
  rw [h]
  dsimp only
  split_ifs <;> simp_all [State.raiseAt, LaneUnit.ended, LaneUnit.dequeue]

/-- The end of a credit changes its own pass's record alone: list and generation, and for a passage R106's fields. -/
theorem State.endCredit_passes (h : (s.lane i).queue[place]? = some c) :
    (s.endCredit i place o).passes =
      if o = .passed then ((s.settleLink c o).writePassage i c).passes else (s.settleLink c o).passes := by
  unfold State.endCredit
  rw [h]
  dsimp only
  split_ifs
  · simp [State.raiseAt, State.settleLink_modLane]
    rfl
  · simp [State.raiseAt, State.settleLink_modLane]

end EndCredit

theorem tentatives_finaliseUses (us : List DayUse) : tentatives (finaliseUses us) = 0 := by
  rw [tentatives, List.countP_eq_zero]
  intro u hu
  obtain ⟨v, -, rfl⟩ := List.mem_map.mp hu
  split <;> simp_all

theorem tentatives_removeTentative (us : List DayUse) : tentatives (removeTentative us) = 0 := by
  rw [tentatives, List.countP_eq_zero]
  intro u hu
  simpa [removeTentative] using (List.mem_filter.mp hu).2

/-- Step 2 of R103 takes the ended credit's ticket out of the law. -/
theorem TicketLaw.settleLink {s : State} {c : Credit} {ts : List (Nat × Bool)}
    (h : TicketLaw s.passes (c.ticket :: ts)) (o : CreditOutcome) : TicketLaw (s.settleLink c o).passes ts := by
  unfold State.settleLink
  split
  · rename_i hlink
    refine TicketLaw.drop h (fun _ => rfl) (fun _ => rfl) fun p => ?_
    dsimp only
    rw [hlink, if_pos rfl]
    split
    · exact tentatives_finaliseUses _
    · exact tentatives_removeTentative _
  · rename_i hlink
    have hid := TicketLaw.drop (f := id) h (fun _ => rfl) (fun _ => rfl) fun p => by simp [hlink]
    simpa using hid

theorem TicketLaw.writePassage {s : State} {ts : List (Nat × Bool)} (h : TicketLaw s.passes ts) (i : LaneNo)
    (c : Credit) : TicketLaw (s.writePassage i c).passes ts :=
  h.map fun p _ => by
    split
    · exact ⟨rfl, id, rfl⟩
    · exact KeepsTicket.refl p

variable {s : State}

/-- A queue that loses the credit at a place loses its ticket, and no other. -/
theorem State.tickets_perm_of_eraseIdx {t : State} {i : LaneNo} {place : Nat} {c : Credit}
    (hc : (s.lane i).queue[place]? = some c)
    (hl : ∀ j, (t.lane j).queue = if j = i then (s.lane i).queue.eraseIdx place else (s.lane j).queue) :
    s.tickets.Perm (c.ticket :: t.tickets) := by
  obtain ⟨hlt, hget⟩ := List.getElem?_eq_some_iff.mp hc
  have hqueue : (s.lane i).tickets.Perm (c.ticket :: (t.lane i).tickets) := by
    have hperm := ((List.getElem_cons_eraseIdx_perm hlt).map Credit.ticket).symm
    rw [hget] at hperm
    simpa [LaneUnit.tickets, hl i] using hperm
  have helse : t.ticketsElsewhere i = s.ticketsElsewhere i :=
    State.ticketsElsewhere_congr fun j hj => LaneUnit.tickets_of_queue (by rw [hl j, if_neg hj])
  calc s.tickets.Perm ((s.lane i).tickets ++ s.ticketsElsewhere i) := s.tickets_perm i
    _ |>.Perm (c.ticket :: ((t.lane i).tickets ++ t.ticketsElsewhere i)) := by
      rw [helse]; exact hqueue.append_right _
    _ |>.Perm (c.ticket :: t.tickets) := (t.tickets_perm i).symm.cons _

theorem State.CreditsKept.endCredit (h : s.CreditsKept) (i : LaneNo) (place : Nat) (o : CreditOutcome) :
    (s.endCredit i place o).CreditsKept := by
  cases hc : (s.lane i).queue[place]? with
  | none => rw [State.endCredit_none hc]; exact h
  | some c =>
    have hperm : s.tickets.Perm (c.ticket :: (s.endCredit i place o).tickets) :=
      State.tickets_perm_of_eraseIdx hc fun j => by
        rw [State.endCredit_lane hc]
        split <;> simp
    have hlink := (h.perm hperm).settleLink o
    unfold State.CreditsKept
    rw [State.endCredit_passes hc]
    split
    · exact hlink.writePassage i c
    · exact hlink

end Sys2Proof.Machine

namespace Sys2Proof.Machine

variable {s : State}

/-! ### Withdrawals and faults -/

theorem State.CreditsKept.endHead (h : s.CreditsKept) (i : LaneNo) (o : CreditOutcome) :
    (s.endHead i o).CreditsKept := by
  simpa [State.endHead] using h.endCredit i 0 o

theorem State.CreditsKept.withdrawFrom (i : LaneNo) (cause : Cause) (which : Credit → Bool) (q : List Credit)
    (place : Nat) (h : s.CreditsKept) : (withdrawFrom i cause which q place s).CreditsKept := by
  induction q generalizing s place with
  | nil => exact h
  | cons c cs ih =>
    unfold Machine.withdrawFrom
    split
    · exact ih _ (h.endCredit i place _)
    · exact ih _ h

theorem State.CreditsKept.withdraw (h : s.CreditsKept) (i : LaneNo) (cause : Cause) (which : Credit → Bool) :
    (s.withdraw i cause which).CreditsKept := h.withdrawFrom i cause which _ 0

theorem State.CreditsKept.withdrawAll (h : s.CreditsKept) : s.withdrawAll.CreditsKept := by
  have key : ∀ (is : List LaneNo) (t : State), t.CreditsKept →
      (is.foldl (fun t i => t.withdraw i .dayClosing Credit.notUnlocked) t).CreditsKept := by
    intro is
    induction is with
    | nil => exact fun _ ht => ht
    | cons i is ih => exact fun t ht => ih _ (ht.withdraw i _ _)
  exact key _ s h

theorem State.CreditsKept.closeInService (h : s.CreditsKept) (i : LaneNo) : (s.closeInService i).CreditsKept := by
  have hqueue : ∀ (waits : Bool) (u : LaneUnit),
      (if waits then ({ u with gate := .closing } : LaneUnit)
        else LaneUnit.offIfDrained { u with gate := .closing }).queue = u.queue := fun waits u => by
    cases waits <;> simp
  exact (State.creditsKept_modLane_queue (hqueue _)).mpr (h.withdraw i _ _)

theorem State.CreditsKept.enterFault (h : s.CreditsKept) (i : LaneNo) (cause : FaultCause) :
    (s.enterFault i cause).CreditsKept := by
  have hgate : (s.modLane i fun u => { u with gate := .fault }).CreditsKept := by simpa using h
  simpa [State.enterFault] using hgate.withdraw i .laneFault fun _ => true

theorem State.CreditsKept.detect (h : s.CreditsKept) (i : LaneNo) (cause : FaultCause) :
    (s.detect i cause).CreditsKept := by
  unfold State.detect
  split
  · simpa using h
  · exact h.enterFault i cause

theorem State.CreditsKept.backoutCredit (h : s.CreditsKept) (i : LaneNo) (r : Rotation) :
    (s.backoutCredit i r).CreditsKept := by
  unfold State.backoutCredit
  split_ifs
  · exact h.endHead i _
  · exact h.endHead i _
  · exact h.endHead i _
  · refine (State.creditsKept_modLane fun u => ?_).mpr h
    exact u.modHead_tickets fun _ => rfl

theorem State.CreditsKept.returnHome (h : s.CreditsKept) (i : LaneNo) (r : Rotation) :
    (s.returnHome i r).CreditsKept := by
  have hcount : ((s.modLane i LaneUnit.atHome).countRotation i (s.lane i).tracker r).CreditsKept := by simpa using h
  unfold State.returnHome
  simp only [State.creditsKept_modLane_queue, LaneUnit.watchBeam_queue, State.creditsKept_homeRelease,
    LaneUnit.offIfDrained_queue, implies_true]
  split
  · exact hcount.backoutCredit i r
  · exact hcount

/-! ### Edges and starts -/

theorem State.CreditsKept.regain (h : s.CreditsKept) : s.regain.CreditsKept := by
  unfold State.regain
  split
  · simp only [State.creditsKept_raise, State.creditsKept_append]
    exact h
  · exact h

theorem State.CreditsKept.acceptEdge (h : s.CreditsKept) (k : EdgeClass) : (s.acceptEdge k).CreditsKept := by
  unfold State.acceptEdge
  simp only [State.creditsKept_arbitrate]
  exact h.regain

/-- With every queue empty and no TENTATIVE entry left, unique pass numbers suffice. -/
theorem State.creditsKept_of_empty (hp : s.passes.Pairwise fun p q => p.number < q.number)
    (hq : ∀ i, (s.lane i).queue = []) (hu : ∀ p ∈ s.passes, tentatives p.uses = 0) : s.CreditsKept := by
  have hts : s.tickets = [] := by simp [State.tickets, LaneUnit.tickets, hq]
  unfold State.CreditsKept
  rw [hts]
  exact ⟨hp, List.nodup_nil, fun n hn => absurd hn (List.not_mem_nil), hu⟩

/-- A start leaves no credit and no TENTATIVE entry (R183). -/
theorem State.CreditsKept.start (h : s.CreditsKept) (kind : StartKind) (cause : StartCause) :
    (s.start kind cause).CreditsKept := by
  have hrestart : ∀ (m : State) (old : Option DayState × Nat × Nat),
      (m.passes.Pairwise fun p q => p.number < q.number) → (m.restart kind cause old).CreditsKept := by
    intro m old hm
    refine State.creditsKept_of_empty (pairwise_map_number hm fun _ _ => rfl) (fun i => ?_)
      (List.forall_mem_map.mpr fun p _ => tentatives_removeTentative p.uses)
    rw [State.lane, State.restart, Six.get_map, LaneUnit.restart_queue]
  unfold State.start
  simp only [State.creditsKept_append]
  refine hrestart _ _ ?_
  split
  · exact .nil
  · exact h.ascending

theorem State.CreditsKept.clearAllSent (h : s.CreditsKept) (a : OutAnswer) : (s.clearAllSent a).CreditsKept :=
  h.start .cold .clearAll

theorem State.CreditsKept.officeSent (h : s.CreditsKept) (a : OutAnswer) : (s.officeSent a).CreditsKept := by
  unfold State.officeSent
  split
  · exact h.clearAllSent a
  · exact h

theorem State.CreditsKept.clockOut (h : s.CreditsKept) : s.clockOut.CreditsKept := by
  have hfiller : s.useFiller.CreditsKept := by
    rw [State.useFiller_eq]; exact h
  unfold State.clockOut
  split
  · exact h
  · split
    · exact hfiller
    · unfold State.clockByte
      split
      · exact hfiller
      · exact hfiller.officeSent _

theorem State.CreditsKept.outputsOff (h : s.CreditsKept) : s.outputsOff.CreditsKept :=
  (State.creditsKept_congr rfl fun i => by
    rw [State.lane, State.outputsOff, Six.get_map]).mpr h

/-! ### Lane events -/

theorem State.CreditsKept.leaveEvent (h : s.CreditsKept) (i : LaneNo) : Gives State.CreditsKept (execRotorLeave i s) :=
  gives_whenRunning h (by simpa using h)

theorem State.CreditsKept.midEvent (h : s.CreditsKept) (i : LaneNo) : Gives State.CreditsKept (execMid i s) := by
  have hmarked : (s.modLane i (LaneUnit.markMid s.clock)).CreditsKept := by simpa using h
  refine gives_whenRunning h ?_
  dsimp only
  split_ifs
  · exact hmarked.endHead i _
  · exact hmarked
  · exact h

theorem State.CreditsKept.returnEvent (h : s.CreditsKept) (i : LaneNo) :
    Gives State.CreditsKept (execReturnToHome i s) := by
  refine gives_whenRunning h ?_
  split_ifs
  · split
    · exact h.returnHome i _
    · exact h
  · exact h

theorem State.CreditsKept.sampleEvent (h : s.CreditsKept) (i : LaneNo) (level : Nat) :
    Gives State.CreditsKept (execBeamSample i level s) := by
  refine gives_whenRunning h ?_
  dsimp only
  split
  · exact h
  · split
    · exact State.CreditsKept.detect (by simpa using h) i _
    · simpa using h

theorem State.CreditsKept.beamBlockedEvent (h : s.CreditsKept) (i : LaneNo) :
    Gives State.CreditsKept (execBeamBlockedExpiry i s) := by
  refine gives_whenRunning h ?_
  dsimp only
  split
  · exact h
  · simpa using h

theorem State.CreditsKept.settleEvent (h : s.CreditsKept) (i : LaneNo) (home : Bool) :
    Gives State.CreditsKept (execSettleExpiry i home s) := by
  refine gives_whenRunning h ?_
  dsimp only
  split
  · exact h
  · split
    · simpa using h
    · exact State.CreditsKept.enterFault (by simpa using h) i _

theorem State.CreditsKept.lifeEvent (h : s.CreditsKept) (i : LaneNo) (credit : Nat) :
    Gives State.CreditsKept (execCreditLifeExpiry i credit s) := by
  refine gives_whenRunning h ?_
  dsimp only
  split
  · exact h
  · split
    · exact State.CreditsKept.endHead (s := s.waitUntil _) h i _
    · exact State.CreditsKept.endCredit (s := s.waitUntil _) h i _ _

theorem State.CreditsKept.unlockStartEvent (h : s.CreditsKept) (i : LaneNo) :
    Gives State.CreditsKept (execUnlockStart i s) := by
  refine gives_whenRunning h ?_
  split
  · exact h
  · split
    · simpa using h
    · exact h

theorem State.CreditsKept.unlockEndEvent (h : s.CreditsKept) (i : LaneNo) :
    Gives State.CreditsKept (execUnlockEnd i s) := by
  refine gives_whenRunning h ?_
  split
  · exact h
  · split
    · exact State.CreditsKept.endHead (s := s.waitUntil _) h i _
    · simpa using h
    · exact h

theorem State.CreditsKept.passageLimitEvent (h : s.CreditsKept) (i : LaneNo) :
    Gives State.CreditsKept (execPassageLimitExpiry i s) := by
  refine gives_whenRunning h ?_
  dsimp only
  split
  · exact h
  · exact State.CreditsKept.detect (by simpa using h) i _

theorem State.CreditsKept.silenceEvent (h : s.CreditsKept) (i : LaneNo) :
    Gives State.CreditsKept (execSilenceExpiry i s) := by
  refine gives_whenRunning h ?_
  dsimp only
  split
  · exact h
  · simp only [State.creditsKept_raiseAt, State.creditsKept_append]
    exact State.CreditsKept.withdraw (by simpa using h) i _ _

/-! ### The pacer, answers and starts -/

theorem State.CreditsKept.edgeEvent (h : s.CreditsKept) : Gives State.CreditsKept (execCarrierEdge s) := by
  refine gives_whenRunning h ?_
  split
  · exact h
  · split
    · exact h
    · exact h.acceptEdge _
    · exact h.acceptEdge _

theorem State.CreditsKept.lostWatchEvent (h : s.CreditsKept) : Gives State.CreditsKept (execLostWatchExpiry s) := by
  refine gives_whenRunning h ?_
  dsimp only
  split
  · simp only [State.creditsKept_raise, State.creditsKept_append]
    exact h
  · exact h

theorem State.CreditsKept.discardedEvent (h : s.CreditsKept) (l : LinkNo) :
    Gives State.CreditsKept (execFrameDiscarded l s) :=
  gives_whenRunning h (by split <;> exact h)

theorem State.CreditsKept.byteErrorEvent (h : s.CreditsKept) (l : LinkNo) :
    Gives State.CreditsKept (execByteError l s) :=
  gives_whenRunning h (by split <;> exact h)

theorem State.CreditsKept.chipSelectEvent (h : s.CreditsKept) : Gives State.CreditsKept (execChipSelectRelease s) := by
  refine gives_whenRunning h ?_
  exact h

theorem State.CreditsKept.gapEvent (h : s.CreditsKept) (l : LinkNo) :
    Gives State.CreditsKept (execFrameGapExpiry l s) := by
  refine gives_whenRunning h ?_
  split
  · exact h
  · split <;> exact h

theorem State.CreditsKept.sendBeginEvent (h : s.CreditsKept) (l : LinkNo) :
    Gives State.CreditsKept (execAnswerSendBegin l s) := by
  refine gives_whenRunning h ?_
  dsimp only
  split
  · exact h
  · split_ifs <;> exact h

theorem State.CreditsKept.sentEvent (h : s.CreditsKept) (l : LinkNo) :
    Gives State.CreditsKept (execAnswerSent l s) := by
  refine gives_whenRunning h ?_
  split
  · exact h
  · split
    · exact h
    · exact h.officeSent _

theorem State.CreditsKept.clearAllEvent (h : s.CreditsKept) : Gives State.CreditsKept (execClearAllStart s) := by
  refine gives_whenRunning h ?_
  split
  · exact h.clearAllSent _
  · exact h

theorem State.CreditsKept.powerUpEvent (h : s.CreditsKept) (retainOk : Bool) :
    Gives State.CreditsKept (execPowerUp retainOk s) := by
  refine gives_next.mpr ?_
  split
  case h_2 => exact h.start _ _
  all_goals exact h

theorem State.CreditsKept.resetAssertedEvent (h : s.CreditsKept) : Gives State.CreditsKept (execResetAsserted s) := by
  refine gives_next.mpr ?_
  split
  case h_1 => exact h.outputsOff
  all_goals exact h

theorem State.CreditsKept.resetReleasedEvent (h : s.CreditsKept) : Gives State.CreditsKept (execResetReleased s) := by
  refine gives_next.mpr ?_
  split
  case h_1 | h_2 => exact h.start _ _
  all_goals exact h

theorem State.CreditsKept.powerLossEvent (h : s.CreditsKept) : Gives State.CreditsKept (execPowerLoss s) := by
  refine gives_next.mpr ?_
  split
  case h_1 => exact h.outputsOff
  all_goals exact h

end Sys2Proof.Machine

/-! ## What requests do to the tickets -/

namespace Sys2Proof.Machine

/-- A request's action keeps the credit laws. -/
def KeepsCredits (act : State → State × Answer) : Prop := ∀ s : State, s.CreditsKept → (act s).1.CreditsKept

theorem keepsCredits_report (f : State → Answer) : KeepsCredits (report f) := fun _ h => h

theorem keepsCredits_onLinkLane {l : LinkNo} {act : LaneNo → State → State × Answer} (h : ∀ i, KeepsCredits (act i)) :
    KeepsCredits (onLinkLane l act) := by
  intro s hs
  unfold onLinkLane
  split
  · exact h _ s hs
  · exact hs

theorem keepsCredits_onLane {lane : Nat} {act : LaneNo → State → State × Answer} (h : ∀ i, KeepsCredits (act i)) :
    KeepsCredits (onLane lane act) := by
  intro s hs
  unfold onLane
  split
  · exact h _ s hs
  · exact hs

/-- A request that names a pass keeps the laws if it does so on the record found. -/
theorem keepsCredits_onPass {n : Nat} {act : Pass → State → State × Answer}
    (h : ∀ (s : State) (p : Pass), s.findPass p.number = some p → s.CreditsKept → (act p s).1.CreditsKept) :
    KeepsCredits (onPass n act) := by
  intro s hs
  unfold onPass
  split
  · exact hs
  · split
    · exact hs
    · rename_i p hp
      obtain rfl := (State.findPass_eq_some hp).2
      exact h s p hp hs

/-! ### Records changed, added and removed -/

variable {s : State}

/-- A change of the records a number keys that no ticket tells apart. -/
theorem State.CreditsKept.modPass (h : s.CreditsKept) {n : Nat} {f : Pass → Pass}
    (hf : ∀ p ∈ s.passes, p.number = n → KeepsTicket p (f p)) : (s.modPass n f).CreditsKept :=
  TicketLaw.map h fun p hp => by
    split
    · exact hf p hp ‹_›
    · exact KeepsTicket.refl p

/-- A number keys the record found and no other. -/
theorem State.CreditsKept.eq_of_findPass (h : s.CreditsKept) {p q : Pass} (hp : s.findPass p.number = some p)
    (hq : q ∈ s.passes) (hn : q.number = p.number) : q = p :=
  eq_of_number_eq h.ascending hq (State.findPass_eq_some hp).1 hn

/-- Another record in the place of the one found. -/
theorem State.CreditsKept.modFound (h : s.CreditsKept) {p : Pass} (hp : s.findPass p.number = some p)
    {f : Pass → Pass} (hf : KeepsTicket p (f p)) : (s.modPass p.number f).CreditsKept :=
  h.modPass fun q hq hn => by
    obtain rfl := h.eq_of_findPass hp hq hn
    exact hf

theorem State.creditOf_eq_none_iff {n : Nat} : s.creditOf n = none ↔ n ∉ s.tickets.map Prod.fst := by
  rw [State.creditOf_eq_none, State.mem_tickets_of_credit]
  push Not
  rfl

theorem keepsCredits_loadPass (n check cls days paid first last : Nat) :
    KeepsCredits (loadPass n check cls days paid first last) := by
  intro s h
  unfold loadPass
  split_ifs with hrange hdup hfull hpool
  · exact h
  · exact h
  · exact h
  · have hnew : ∀ q ∈ s.passes, q.number ≠ n := State.findPass_eq_none.mp (by simpa using hdup)
    have hnone : n ∉ s.tickets.map Prod.fst := fun hn => by
      obtain ⟨p, hp, hpn, -⟩ := h.record n hn
      exact hnew p hp hpn
    refine ⟨pairwise_insertPass _ _ h.ascending hnew, h.single, fun m hm => ?_, fun q hq => ?_⟩
    · obtain ⟨p, hp, hpm⟩ := h.record m hm
      exact ⟨p, (mem_insertPass _ _ _).mpr (.inr hp), hpm⟩
    · rcases (mem_insertPass _ _ _).mp hq with rfl | hq
      · exact (count_of_not_mem hnone true).symm
      · exact h.tentative q hq
  · exact h

theorem keepsCredits_amendPass (n presence : Nat) (a : Amendment) : KeepsCredits (amendPass n presence a) := by
  intro s h
  have hamend : ∀ (free : Nat), (State.modPass { s with free := free } n (Pass.amend a)).CreditsKept := fun free =>
    State.CreditsKept.modPass (s := { s with free := free }) h fun p _ _ => ⟨rfl, id, rfl⟩
  unfold amendPass
  split
  · exact h
  · split
    · exact h
    · split_ifs
      · exact h
      · exact h
      · exact h
      · exact h
      · exact hamend _

theorem keepsCredits_blockPass (n : Nat) : KeepsCredits (onPass n blockPass) := by
  refine keepsCredits_onPass fun s p _ h => ?_
  have hblocked : (s.modPass p.number fun q => { q with state := .blocked }).CreditsKept :=
    h.modPass fun q _ _ => ⟨rfl, fun _ => by simp, rfl⟩
  unfold blockPass
  dsimp only
  split_ifs
  · exact h
  · split
    · exact hblocked
    · split_ifs
      · exact hblocked.endHead _ _
      · exact hblocked.endCredit _ _ _
      · exact hblocked

theorem keepsCredits_unblockPass (n : Nat) : KeepsCredits (onPass n unblockPass) := by
  refine keepsCredits_onPass fun s p _ h => ?_
  unfold unblockPass
  split_ifs
  · exact h
  · exact h.modPass fun q _ _ => ⟨rfl, fun _ => by simp, rfl⟩

/-- A record without a credit may go (R17). -/
theorem State.CreditsKept.purge (h : s.CreditsKept) {p : Pass} (hc : s.creditOf p.number = none) (free : Nat) :
    ({ s with passes := removePass p.number s.passes, free := free } : State).CreditsKept := by
  have hnone := State.creditOf_eq_none_iff.mp hc
  refine ⟨h.ascending.filter _, h.single, fun m hm => ?_, fun q hq => h.tentative q (List.mem_of_mem_filter hq)⟩
  obtain ⟨q, hq, rfl, hs⟩ := h.record m hm
  have hne : q.number ≠ p.number := fun e => hnone (e ▸ hm)
  exact ⟨q, List.mem_filter.mpr ⟨hq, by simpa using hne⟩, rfl, hs⟩

theorem keepsCredits_purgePass (n : Nat) : KeepsCredits (onPass n purgePass) := by
  refine keepsCredits_onPass fun s p _ h => ?_
  unfold purgePass
  split
  · exact h
  · exact h.purge ‹_› _

/-! ### MERGE USE and refunds (R30 to R35, R150) -/

theorem State.CreditsKept.markOverUse (h : s.CreditsKept) (p : Pass) (day : Nat) : (s.markOverUse p day).CreditsKept :=
  h.modPass fun q _ _ => by
    unfold Pass.setOverUse
    split
    · exact KeepsTicket.refl q
    · exact ⟨rfl, id, rfl⟩

theorem State.CreditsKept.merged (h : s.CreditsKept) {p : Pass} (hp : s.findPass p.number = some p) {us : List DayUse}
    (r : MergeResult) (hus : tentatives us = tentatives p.uses) : (s.merged p us r).1.CreditsKept :=
  h.modFound hp ⟨rfl, id, hus⟩

theorem tentatives_modUse {day : Nat} {f : DayUse → DayUse} (hf : ∀ u, (f u).status = u.status) (us : List DayUse) :
    tentatives (modUse day f us) = tentatives us := by
  simp only [tentatives, modUse, List.countP_map]
  congr 1
  funext u
  dsimp only [Function.comp]
  split <;> simp [hf]

theorem tentatives_insertUse (e : DayUse) (us : List DayUse) :
    tentatives (insertUse e us) = tentatives us + if e.status = .tentative then 1 else 0 := by
  induction us with
  | nil => simp [insertUse, tentatives, List.countP_cons]
  | cons u us ih =>
    unfold insertUse
    split
    · simp [tentatives, List.countP_cons]
    · simp only [tentatives, List.countP_cons] at ih ⊢
      omega

theorem EntryStatus.eq_tentative {x : EntryStatus} (h : x ≠ .final) : x = .tentative := by
  cases x
  · rfl
  · exact absurd rfl h

/-- A list's only TENTATIVE entry made FINAL leaves none (R33). -/
theorem tentatives_finalised {day : Nat} {us : List DayUse} {e : DayUse} (he : findUse day us = some e)
    (hs : e.status = .tentative) (hone : tentatives us ≤ 1) {f : DayUse → DayUse} (hf : ∀ u, (f u).status = .final) :
    tentatives (modUse day f us) = 0 := by
  rw [tentatives, List.countP_eq_zero]
  intro x hx
  obtain ⟨v, hv, rfl⟩ := List.mem_map.mp hx
  split
  · simp [hf]
  · rename_i hday
    have hmem := List.mem_of_find?_eq_some he
    have heday : e.day = day := by simpa using List.find?_some he
    have hne : e ≠ v := fun h => hday (h ▸ heday)
    by_contra hv'
    have htwo : [e, v].Subperm us := (List.subperm_of_subset (by simp [hne]) (by simp [hmem, hv]))
    have hle : tentatives [e, v] ≤ tentatives us := htwo.countP_le _
    have hcount : tentatives [e, v] = 2 := by simpa [tentatives, List.countP_cons, hs] using hv'
    omega

/-- The tickets of a pass with its link cut (R33). -/
def cutTicket (n : Nat) (x : Nat × Bool) : Nat × Bool := if x.1 = n then (x.1, false) else x

theorem cutTicket_fst (n : Nat) (x : Nat × Bool) : (cutTicket n x).1 = x.1 := by
  unfold cutTicket; split <;> rfl

theorem State.cutLink_tickets (s : State) (n : Nat) : (s.cutLink n).tickets = s.tickets.map (cutTicket n) := by
  simp only [State.tickets, List.map_flatMap]
  congr 1
  funext i
  simp only [LaneUnit.tickets, State.lane, State.cutLink, Six.get_map, List.map_map]
  congr 1
  funext c
  by_cases hc : c.pass = n <;> simp [cutTicket, Credit.ticket, hc]

theorem count_cutTicket_self (n : Nat) (ts : List (Nat × Bool)) : (ts.map (cutTicket n)).count (n, true) = 0 := by
  refine List.count_eq_zero.mpr fun hm => ?_
  obtain ⟨x, -, hx⟩ := List.mem_map.mp hm
  unfold cutTicket at hx
  split at hx <;> simp_all

theorem count_cutTicket_of_ne {n m : Nat} (h : m ≠ n) (ts : List (Nat × Bool)) (b : Bool) :
    (ts.map (cutTicket n)).count (m, b) = ts.count (m, b) := by
  rw [List.count_eq_countP, List.countP_map, List.count_eq_countP]
  congr 1
  funext x
  rw [Bool.eq_iff_iff]
  by_cases hx : x.1 = n
  · have hne : x.1 ≠ m := fun e => h (e ▸ hx)
    simp [cutTicket, hx, Prod.ext_iff, hx ▸ hne]
  · simp [cutTicket, hx]

/-- The TENTATIVE entry made FINAL and the link cut (R33). -/
theorem State.CreditsKept.finaliseAndCut (h : s.CreditsKept) {p : Pass} (hp : s.findPass p.number = some p) {day : Nat}
    {e : DayUse} (he : findUse day p.uses = some e) (hs : e.status ≠ .final) {f : DayUse → DayUse}
    (hf : ∀ u, (f u).status = .final) (r : MergeResult) :
    ((s.cutLink p.number).merged p (modUse day f p.uses) r).1.CreditsKept := by
  have hmem := (State.findPass_eq_some hp).1
  have hone : tentatives p.uses ≤ 1 := by
    have hsingle := (List.nodup_iff_count_le_one.mp h.single) p.number
    have hle : s.tickets.count (p.number, true) ≤ (s.tickets.map Prod.fst).count p.number :=
      List.count_le_count_map (f := Prod.fst) (x := (p.number, true))
    rw [h.tentative p hmem]
    exact hle.trans hsingle
  have hfst : (s.tickets.map (cutTicket p.number)).map Prod.fst = s.tickets.map Prod.fst := by
    rw [List.map_map]
    exact List.map_congr_left fun x _ => cutTicket_fst _ x
  unfold State.CreditsKept
  rw [show ((s.cutLink p.number).merged p (modUse day f p.uses) r).1.tickets = _ from s.cutLink_tickets p.number]
  refine TicketLaw.change (ps := s.passes) h (fun q _ => ?_) (hfst ▸ h.single) (fun n hn => ?_) fun q hq => ?_
  · split <;> simp_all
  · obtain ⟨q, hq, hqn, hqs⟩ := h.record n (hfst ▸ hn)
    refine ⟨q, hq, hqn, ?_⟩
    split
    · obtain rfl := h.eq_of_findPass hp hq ‹_›
      exact hqs
    · exact hqs
  · split
    · rename_i hn
      rw [hn, count_cutTicket_self]
      exact tentatives_finalised he (EntryStatus.eq_tentative hs) hone hf
    · rw [count_cutTicket_of_ne ‹_›]
      exact h.tentative q hq

theorem State.CreditsKept.mergeInWindow (h : s.CreditsKept) {p : Pass} (hp : s.findPass p.number = some p) (day : Nat)
    (kind : DayKind) : (mergeInWindow day kind p s).1.CreditsKept := by
  unfold Machine.mergeInWindow
  split
  · exact h.markOverUse p day
  split
  · split_ifs
    · exact h.merged hp _ (tentatives_modUse (fun u => by rfl) _)
    · exact h
    · exact h.finaliseAndCut hp ‹_› ‹_› (fun _ => rfl) _
  · split_ifs
    · exact h.merged hp _ (by simp [tentatives_insertUse])
    · exact h.markOverUse p day

theorem keepsCredits_mergeUse (n day kind : Nat) : KeepsCredits (mergeUse n day kind) := by
  intro s h
  unfold mergeUse
  split
  · exact h
  · refine keepsCredits_onPass (fun s p hp h => ?_) s h
    split
    · exact h.mergeInWindow hp _ _
    · exact h

theorem keepsCredits_quoteRefund (n : Nat) : KeepsCredits (onPass n quoteRefund) := by
  refine keepsCredits_onPass fun s p _ h => ?_
  unfold quoteRefund
  split <;> exact h

theorem settleRefused_none {p : Pass} (h : settleRefused s p = none) : s.creditOf p.number = none := by
  unfold settleRefused at h
  split_ifs at h
  simpa using h

/-- A record without a credit may be settled (R151). -/
theorem State.CreditsKept.settle (h : s.CreditsKept) {p : Pass} (hc : s.creditOf p.number = none) (q : Quote)
    (day generation : Nat) : (s.modPass p.number (Pass.settle q day generation)).CreditsKept := by
  have hnone := State.creditOf_eq_none_iff.mp hc
  refine TicketLaw.change (ps := s.passes) h (fun r _ => by split <;> rfl) h.single (fun n hn => ?_) fun r hr => ?_
  · obtain ⟨r, hr, rfl, hs⟩ := h.record n hn
    have hne : r.number ≠ p.number := fun e => hnone (e ▸ hn)
    exact ⟨r, hr, rfl, by rwa [if_neg hne]⟩
  · have hcount : tentatives r.uses = s.tickets.count (r.number, true) := h.tentative r hr
    refine Eq.trans ?_ hcount
    split <;> rfl

theorem keepsCredits_settleRefund (n generation : Nat) : KeepsCredits (onPass n (settleRefund generation)) := by
  refine keepsCredits_onPass fun s p _ h => ?_
  unfold settleRefund
  split
  · exact h
  · split_ifs
    · exact h
    · exact h
    · exact h.settle (settleRefused_none ‹_›) _ _ _

/-! ### Admission (R26, R55, R63) -/

/-- A pass that no check of R55 denies is not SURRENDERED and has no credit. -/
theorem passDeny_none {p : Pass} {check : Nat} (h : passDeny s p check = none) :
    p.state ≠ .surrendered ∧ s.creditOf p.number = none := by
  cases hc : s.creditOf p.number with
  | none =>
    refine ⟨fun hs => ?_, rfl⟩
    simp only [passDeny, hs, if_true] at h
    split_ifs at h
  | some x =>
    simp only [passDeny, hc] at h
    split_ifs at h

/-- A queue with one credit more has its ticket more. -/
theorem State.tickets_perm_of_enqueue {t : State} {i : LaneNo} {c : Credit}
    (hl : ∀ j, (t.lane j).queue = if j = i then (s.lane i).queue ++ [c] else (s.lane j).queue) :
    (c.ticket :: s.tickets).Perm t.tickets := by
  have hqueue : (c.ticket :: (s.lane i).tickets).Perm (t.lane i).tickets := by
    simpa [LaneUnit.tickets, hl i] using (List.perm_append_singleton _ _).symm
  have helse : t.ticketsElsewhere i = s.ticketsElsewhere i :=
    State.ticketsElsewhere_congr fun j hj => LaneUnit.tickets_of_queue (by rw [hl j, if_neg hj])
  calc (c.ticket :: s.tickets).Perm (c.ticket :: ((s.lane i).tickets ++ s.ticketsElsewhere i)) :=
        (s.tickets_perm i).cons _
    _ |>.Perm ((t.lane i).tickets ++ t.ticketsElsewhere i) := by rw [helse]; exact hqueue.append_right _
    _ |>.Perm t.tickets := (t.tickets_perm i).symm

theorem State.linkFirstUse_lane (s : State) (i j : LaneNo) (p : Pass) : (s.linkFirstUse i p).lane j = s.lane j := by
  unfold State.linkFirstUse
  split <;> rfl

/-- The record of a granted pass takes the new credit's ticket into the law. -/
theorem State.CreditsKept.linkFirstUse (h : s.CreditsKept) {p : Pass} (hp : s.findPass p.number = some p)
    (hs : p.state ≠ .surrendered) (hc : s.creditOf p.number = none) (i : LaneNo) :
    TicketLaw (s.linkFirstUse i p).passes ((newCredit s i p).ticket :: s.tickets) := by
  have hnone := State.creditOf_eq_none_iff.mp hc
  have hrecord : ∃ q ∈ s.passes, q.number = p.number ∧ q.state ≠ .surrendered :=
    ⟨p, (State.findPass_eq_some hp).1, rfl, hs⟩
  have hticket : (newCredit s i p).ticket = (p.number, (firstUse s p).isSome) := rfl
  rw [hticket]
  unfold State.linkFirstUse
  split
  · rename_i k hk
    rw [hk]
    exact TicketLaw.add h hnone hrecord (fun _ => rfl) (fun _ => rfl) fun q => tentatives_insertUse _ _
  · rename_i hk
    rw [hk]
    have hid := TicketLaw.add (b := false) (f := id) h hnone hrecord (fun _ => rfl) (fun _ => rfl) fun q => rfl
    simpa using hid

theorem State.CreditsKept.grant (h : s.CreditsKept) {p : Pass} {check : Nat} (hp : s.findPass p.number = some p)
    (hok : passDeny s p check = none) (i : LaneNo) : (grant i p s).1.CreditsKept := by
  obtain ⟨hs, hc⟩ := passDeny_none hok
  have henqueue : ((s.linkFirstUse i p).modLane i (LaneUnit.enqueue (newCredit s i p))).CreditsKept :=
    (h.linkFirstUse hp hs hc i).perm <| State.tickets_perm_of_enqueue (i := i) fun j => by
      rw [State.modLane_lane]
      split <;> simp [State.linkFirstUse_lane]
  rw [grant_fst]
  split
  · simpa using henqueue
  · exact henqueue

theorem keepsCredits_present (l : LinkNo) (pass check : Nat) : KeepsCredits (onLinkLane l (present pass check)) := by
  refine keepsCredits_onLinkLane fun i s h => ?_
  have hdeny : ∀ (reason : DenyReason) (detail : Nat), (deny i reason detail s).1.CreditsKept := fun _ _ => by
    simpa [deny] using h
  unfold present
  dsimp only
  split_ifs
  · exact h
  · exact hdeny _ _
  · exact h
  split
  · exact hdeny _ _
  · rename_i p hp
    obtain rfl := (State.findPass_eq_some hp).2
    split
    · exact hdeny _ _
    · exact h.grant hp ‹_› i

/-! ### Days and lanes (R46, R47, R81 to R83) -/

theorem State.CreditsKept.zeroDay (h : s.CreditsKept) : s.zeroDay.CreditsKept := by
  have hlanes : s.zeroDay.tickets = s.tickets := State.tickets_congr fun i => by
    rw [State.lane, State.zeroDay, Six.get_map]
    rfl
  unfold State.CreditsKept
  rw [hlanes]
  exact TicketLaw.map h fun p _ => ⟨rfl, id, rfl⟩

theorem keepsCredits_openDay (day : Nat) : KeepsCredits (openDay day) := by
  intro s h
  unfold openDay
  split_ifs
  · exact h
  · exact h
  · exact h
  · unfold State.openNow
    simp only [State.creditsKept_raise, State.creditsKept_append]
    split
    · exact h
    · exact h.zeroDay
  · exact h

theorem keepsCredits_closeDay : KeepsCredits closeDay := by
  intro s h
  unfold closeDay
  split
  · exact h
  · exact h
  · simp only [State.creditsKept_closeIfDrained, State.creditsKept_toDay]
    exact h.withdrawAll

theorem keepsCredits_openLane (i : LaneNo) : KeepsCredits (openLane i) := by
  intro s h
  unfold openLane
  dsimp only
  split
  case h_1 | h_3 => simpa using h
  all_goals exact h

theorem keepsCredits_closeLane (i : LaneNo) : KeepsCredits (closeLane i) := by
  intro s h
  have hoff : (s.modLane i LaneUnit.toOff).CreditsKept := by simpa using h
  unfold closeLane closeLane.inService
  dsimp only
  split
  case h_1 | h_4 => exact h
  case h_2 | h_3 => exact hoff
  all_goals exact h.closeInService i

theorem keepsCredits_clearLane (i : LaneNo) : KeepsCredits (clearLane i) := by
  intro s h
  unfold clearLane
  split
  · simpa using h
  · exact h

theorem keepsCredits_configureLane (config : LaneConfig) (i : LaneNo) : KeepsCredits (configureLane config i) := by
  intro s h
  unfold configureLane configureLane.busy
  dsimp only
  split <;> simpa using h

/-! ### The pacer, tariffs, clock and reports -/

theorem State.CreditsKept.startLift (h : s.CreditsKept) : s.startLift.CreditsKept := by
  unfold State.startLift
  split
  · simp only [State.creditsKept_arbitrate]
    exact h
  · simp only [State.creditsKept_freeReleaseAll]
    exact h

theorem State.CreditsKept.stopLift (h : s.CreditsKept) : s.stopLift.CreditsKept :=
  (State.creditsKept_congr (s := s) (t := s.stopLift) rfl fun i => by
    rw [State.lane, State.stopLift, Six.get_map, LaneUnit.liftStop_tickets]
    rfl).mpr h

theorem keepsCredits_setLift (state : Nat) : KeepsCredits (setLift state) := by
  intro s h
  unfold setLift
  split
  · exact h
  · split
    · exact h
    · split
      · exact h.startLift
      · exact h.stopLift

theorem keepsCredits_setPacing (mode : Nat) (settings : PacingSettings) : KeepsCredits (setPacing mode settings) := by
  intro s h
  unfold setPacing
  split
  · exact h
  · dsimp only
    split
    · simp only [State.creditsKept_freeReleaseAll]
      exact h
    · exact h

theorem keepsCredits_setTariff (cls : Nat) (t : Tariff) : KeepsCredits (setTariff cls t) := by
  intro s h
  unfold setTariff
  split
  · exact h
  · exact h
  · split <;> exact h

theorem keepsCredits_readTariff (cls : Nat) : KeepsCredits (readTariff cls) := by
  intro s h
  unfold readTariff
  split <;> exact h

theorem keepsCredits_setClock (time : Nat) : KeepsCredits (setClock time) := by
  intro s h
  unfold setClock
  split_ifs <;> exact h

theorem keepsCredits_setMask (l : LinkNo) (mask : Nat) : KeepsCredits (setMask l mask) := by
  intro s h
  unfold setMask
  split <;> exact h

theorem keepsCredits_setLevels (v : Levels) : KeepsCredits (setLevels v) := by
  intro s h
  unfold setLevels
  split <;> exact h

theorem keepsCredits_readCounts (l : LinkNo) (selector : Nat) : KeepsCredits (readCounts l selector) := by
  intro s h
  unfold readCounts
  split <;> exact h

theorem keepsCredits_readJournal (start count : Nat) : KeepsCredits (readJournal start count) := by
  intro s h
  unfold readJournal
  dsimp only
  split_ifs <;> exact h

/-- Every request of R178 keeps the credit laws. -/
theorem keepsCredits_requestAction {c : Instr} {l : LinkNo} {code tag : Nat} {act : State → State × Answer}
    (hc : requestAction c = some (l, code, tag, act)) : KeepsCredits act := by
  cases c <;> cases hc
  case present => exact keepsCredits_present _ _ _
  case laneStatus => exact keepsCredits_onLinkLane fun _ => keepsCredits_report _
  case hello => exact keepsCredits_report _
  case readEvents => exact fun _ h => h
  case setMask => exact keepsCredits_setMask _ _
  case setLevels => exact keepsCredits_setLevels _
  case readCounts => exact keepsCredits_readCounts _ _
  case readJournal => exact keepsCredits_readJournal _ _
  case loadPass => exact keepsCredits_loadPass _ _ _ _ _ _ _
  case amendPass => exact keepsCredits_amendPass _ _ _
  case blockPass => exact keepsCredits_blockPass _
  case unblockPass => exact keepsCredits_unblockPass _
  case purgePass => exact keepsCredits_purgePass _
  case readPass => exact keepsCredits_onPass fun _ _ _ h => h
  case mergeUse => exact keepsCredits_mergeUse _ _ _
  case quoteRefund => exact keepsCredits_quoteRefund _
  case settleRefund => exact keepsCredits_settleRefund _ _
  case setTariff => exact keepsCredits_setTariff _ _
  case readTariff => exact keepsCredits_readTariff _
  case setClock => exact keepsCredits_setClock _
  case openDay => exact keepsCredits_openDay _
  case closeDay => exact keepsCredits_closeDay
  case readDay => exact keepsCredits_report _
  case readStart => exact keepsCredits_report _
  case clearAll => exact keepsCredits_report _
  case setLift => exact keepsCredits_setLift _
  case setSeats => exact fun _ h => h
  case setPacing => exact keepsCredits_setPacing _ _
  case readLift => exact keepsCredits_report _
  case openLane => exact keepsCredits_onLane keepsCredits_openLane
  case closeLane => exact keepsCredits_onLane keepsCredits_closeLane
  case clearLane => exact keepsCredits_onLane keepsCredits_clearLane
  case configureLane => exact keepsCredits_onLane (keepsCredits_configureLane _)
  case readLane => exact keepsCredits_onLane fun _ => keepsCredits_report _
  case unknownRequest => exact keepsCredits_report _

end Sys2Proof.Machine

/-! ## Every step keeps the credit laws -/

namespace Sys2Proof.Machine

variable {s : State}

theorem State.CreditsKept.takeFrame (h : s.CreditsKept) {act : State → State × Answer} (hact : KeepsCredits act)
    (l : LinkNo) (code tag : Nat) : Gives State.CreditsKept (takeFrame l code tag act s) :=
  have htaken : (s.taken l).CreditsKept := (s.creditsKept_taken l).mpr h
  gives_takeFrame h (fun _ => htaken) (fun _ => by simpa using h) fun _ => by simpa using hact _ htaken

/-- A request, from its row or from the byte that completes its frame. -/
theorem State.CreditsKept.runRequest (h : s.CreditsKept) (c : Instr) : Gives State.CreditsKept (runRequest c s) := by
  cases hc : requestAction c with
  | none => rw [runRequest_noAction hc, gives_next]; exact h
  | some x =>
    obtain ⟨l, code, tag, act⟩ := x
    rw [runRequest_requestAction hc]
    exact h.takeFrame (keepsCredits_requestAction hc) l code tag

theorem State.CreditsKept.receiveByte (h : s.CreditsKept) (l : LinkNo) (b : Byte) :
    Gives State.CreditsKept (receiveByte l b s) := by
  unfold Machine.receiveByte
  split
  · rw [gives_next]
    split <;> exact h
  · dsimp only
    split_ifs
    · exact gives_next.mpr h
    · unfold completeFrame
      split
      · exact h.runRequest _
      · exact gives_next.mpr h
    · exact gives_next.mpr h

theorem State.CreditsKept.byteReceived (h : s.CreditsKept) (l : LinkNo) (b : Byte) :
    Gives State.CreditsKept (execByteReceived l b s) := by
  unfold execByteReceived
  split_ifs
  · exact gives_next.mpr h
  · exact h.receiveByte l b
  · exact gives_next.mpr h.clockOut
  · exact h.clockOut.receiveByte l b
  · exact gives_next.mpr h

/-- A command that is no request. -/
theorem State.CreditsKept.event (h : s.CreditsKept) {c : Instr} (hc : requestAction c = none) :
    Gives State.CreditsKept (exec c s) := by
  cases c <;> cases hc
  case frameDiscarded => exact h.discardedEvent _
  case frameGapExpiry => exact h.gapEvent _
  case byteError => exact h.byteErrorEvent _
  case chipSelectRelease => exact h.chipSelectEvent
  case answerSendBegin => exact h.sendBeginEvent _
  case answerSent => exact h.sentEvent _
  case rotorLeave => exact h.leaveEvent _
  case mid => exact h.midEvent _
  case returnToHome => exact h.returnEvent _
  case beamSample => exact h.sampleEvent _ _
  case carrierEdge => exact h.edgeEvent
  case settleExpiry => exact h.settleEvent _ _
  case creditLifeExpiry => exact h.lifeEvent _ _
  case unlockStart => exact h.unlockStartEvent _
  case unlockEnd => exact h.unlockEndEvent _
  case passageLimitExpiry => exact h.passageLimitEvent _
  case silenceExpiry => exact h.silenceEvent _
  case beamBlockedExpiry => exact h.beamBlockedEvent _
  case lostWatchExpiry => exact h.lostWatchEvent
  case powerUp => exact h.powerUpEvent _
  case resetAsserted => exact h.resetAssertedEvent
  case resetReleased => exact h.resetReleasedEvent
  case powerLoss => exact h.powerLossEvent
  case clearAllStart => exact h.clearAllEvent
  case byteReceived => exact h.byteReceived _ _

theorem State.CreditsKept.exec (h : s.CreditsKept) (c : Instr) : Gives State.CreditsKept (exec c s) := by
  cases hc : requestAction c with
  | none => exact h.event hc
  | some x =>
    obtain ⟨l, code, tag, act⟩ := x
    rw [exec_requestAction hc]
    exact h.takeFrame (keepsCredits_requestAction hc) l code tag

theorem State.CreditsKept.step (h : s.CreditsKept) : Gives State.CreditsKept (step s) := by
  unfold Machine.step
  split
  · rw [gives_next]
    unfold idle
    split <;> exact h
  · rename_i c rest _
    exact State.CreditsKept.exec (s := { s with pending := rest }) h c

end Sys2Proof.Machine

namespace Sys2Proof.Machine

/-- Settles O55: the pass list and the tickets of the queues keep `TicketLaw` through every action and event; of the
Pool's law the uniqueness of pass numbers is all it takes. -/
theorem creditLawsAreKept : Obligations.CreditLawsAreKept := by
  intro s t hpool hcredits hstep
  have hkept : s.CreditsKept := s.creditsKept_iff.mpr ⟨hpool.ascending, hcredits⟩
  exact (t.creditsKept_iff.mp (hkept.step t hstep)).2

end Sys2Proof.Machine

/-! ## MERGE USE (R30 to R35) -/

namespace Sys2Proof.Machine

theorem kindOf_eq_none {n : Nat} : kindOf n = none ↔ 1 < n := by
  unfold kindOf
  split_ifs <;> simp <;> omega

theorem kindOf_code (k : DayKind) : kindOf k.code = some k := by cases k <;> rfl

theorem mergeDayOk_iff {s : State} {p : Pass} {day : Nat} :
    mergeDayOk s p day = true ↔ 1 ≤ day ∧ day ≤ s.lastOpened ∧ p.firstDay ≤ day ∧ day ≤ p.lastDay := by
  simp [mergeDayOk, Nat.one_le_iff_ne_zero, and_assoc]

/-- R35 in one record: the flag is set, and the generation rises if it was clear. -/
theorem Pass.setOverUse_eq (p : Pass) :
    p.setOverUse = { p with overUse := true, generation := if p.overUse then p.generation else bump p.generation } := by
  unfold Pass.setOverUse
  split
  · cases p
    simp_all
  · rfl

theorem State.markOverUse_eq (s : State) (p : Pass) (day : Nat) :
    s.markOverUse p day = State.append { s with
      passes := s.passes.map fun q =>
        if q.number = p.number then
          { q with overUse := true, generation := if q.overUse then q.generation else bump q.generation }
        else q } (.overuse p.number day) := by
  unfold State.markOverUse State.modPass
  simp only [Pass.setOverUse_eq]

section Cases
variable {s : State} {p : Pass} {day : Nat} {kind : DayKind}

theorem mergeInWindow_surrendered (h : p.state = .surrendered) :
    mergeInWindow day kind p s = (s.markOverUse p day, .settledMerge (p.settlement.elim 0 Settlement.refund)) :=
  if_pos h

variable (h : p.state ≠ .surrendered)
include h

theorem mergeInWindow_upgraded {e : DayUse} (he : findUse day p.uses = some e) (hs : e.status = .final)
    (hk : e.kind = .half) (hkind : kind = .full) :
    mergeInWindow day kind p s = s.merged p (modUse day (fun e => { e with kind := .full }) p.uses) .upgraded := by
  simp [mergeInWindow, h, he, hs, hk, hkind]

theorem mergeInWindow_noChange {e : DayUse} (he : findUse day p.uses = some e) (hs : e.status = .final)
    (hk : e.kind = .full ∨ kind = .half) :
    mergeInWindow day kind p s = (s, .merged .noChange p.uses.length p.remaining p.generation) := by
  have hup : ¬ (e.kind = .half ∧ kind = .full) := by
    rintro ⟨h1, h2⟩
    rcases hk with h3 | h3 <;> simp_all
  simp [mergeInWindow, h, he, hs, hup]

theorem mergeInWindow_finalised {e : DayUse} (he : findUse day p.uses = some e) (hs : e.status = .tentative) :
    mergeInWindow day kind p s =
      (s.cutLink p.number).merged p
        (modUse day (fun e => { e with kind := mergeKind e.kind kind, origin := .merged, status := .final }) p.uses)
        .finalised := by
  simp [mergeInWindow, h, he, hs]

theorem mergeInWindow_inserted (he : findUse day p.uses = none) (hroom : p.uses.length < p.days) :
    mergeInWindow day kind p s =
      s.merged p (insertUse { day := day, kind := kind, origin := .merged, status := .final } p.uses) .inserted := by
  simp [mergeInWindow, h, he, hroom]

theorem mergeInWindow_overUse (he : findUse day p.uses = none) (hfull : p.days ≤ p.uses.length) :
    mergeInWindow day kind p s = (s.markOverUse p day, .overUse p.days p.uses.length) := by
  simp [mergeInWindow, h, he, Nat.not_lt_of_le hfull]

end Cases

section Taken
variable {s : State} {tag n day byte : Nat} {kind : DayKind} {p : Pass}

theorem mergeUse_eq_onPass (hk : kindOf byte = some kind) :
    mergeUse n day byte = onPass n fun p s =>
      if mergeDayOk s p day then mergeInWindow day kind p s
      else (s, .outOfWindow p.firstDay p.lastDay s.lastOpened) := by
  funext s
  simp [mergeUse, hk]

variable (ht : Takes s officeLink)
include ht

/-- MERGE USE on a record found, with its kind read. -/
theorem exec_mergeUse_found (hn : passNumberOk n = true) (hk : kindOf byte = some kind) (hp : s.findPass n = some p) :
    exec (.mergeUse officeLink tag n day byte) s = .next
      (let r := if mergeDayOk s p day then mergeInWindow day kind p (s.taken officeLink)
        else (s.taken officeLink, .outOfWindow p.firstDay p.lastDay s.lastOpened)
      r.1.reply officeLink 22 tag r.2) := by
  have hc : requestAction (.mergeUse officeLink tag n day byte) = some (officeLink, 22, tag, mergeUse n day byte) := rfl
  rw [mergeUse_eq_onPass hk] at hc
  exact exec_onPass_found hc ht rfl rfl hn hp

theorem exec_mergeUse_inWindow (hn : passNumberOk n = true) (hk : kindOf byte = some kind) (hp : s.findPass n = some p)
    (hday : mergeDayOk s p day = true) :
    exec (.mergeUse officeLink tag n day byte) s = .next
      ((mergeInWindow day kind p (s.taken officeLink)).1.reply officeLink 22 tag
        (mergeInWindow day kind p (s.taken officeLink)).2) := by
  rw [exec_mergeUse_found ht hn hk hp, hday]
  rfl

end Taken

/-- Settles O25: the checks of `mergeUse` in their order, and `mergeInWindow` on a SURRENDERED record. -/
theorem mergeUseOutsideTheList : Obligations.MergeUseOutsideTheList := by
  intro tag n day byte s ht run inRange
  have hrange : inRange ↔ passNumberOk n = true ∧ byte ≤ 1 := by
    rw [passNumberOk_iff, and_assoc]
  have hkind : byte ≤ 1 → ∃ kind, kindOf byte = some kind := fun hb =>
    Option.ne_none_iff_exists'.mp (mt kindOf_eq_none.mp (Nat.not_lt_of_le hb))
  refine ⟨fun hr => ?_, fun hr hp => ?_, fun p hr hp => ⟨fun hday => ?_, fun hday hs => ?_⟩⟩
  · have hrun : run = .next ((mergeUse n day byte (s.taken officeLink)).1.reply officeLink 22 tag
        (mergeUse n day byte (s.taken officeLink)).2) := exec_taken rfl ht rfl rfl
    have hbad : mergeUse n day byte (s.taken officeLink) = (s.taken officeLink, .outOfRange) := by
      unfold mergeUse
      split
      · rfl
      · rename_i kind hk
        have hb : byte ≤ 1 := Nat.le_of_not_lt fun hlt => by simp [kindOf_eq_none.mpr hlt] at hk
        exact onPass_outOfRange fun hn => hr (hrange.mpr ⟨hn, hb⟩)
    rw [hrun, hbad]
    rfl
  · obtain ⟨hn, hb⟩ := hrange.mp hr
    obtain ⟨kind, hk⟩ := hkind hb
    have hc : requestAction (.mergeUse officeLink tag n day byte) = some (officeLink, 22, tag, mergeUse n day byte) :=
      rfl
    rw [mergeUse_eq_onPass hk] at hc
    exact exec_onPass_unknown hc ht rfl rfl hn hp
  · obtain ⟨hn, hb⟩ := hrange.mp hr
    obtain ⟨kind, hk⟩ := hkind hb
    have hout : mergeDayOk s p day ≠ true := mt mergeDayOk_iff.mp hday
    rw [show run = _ from exec_mergeUse_found ht hn hk hp, if_neg hout]
    rfl
  · obtain ⟨hn, hb⟩ := hrange.mp hr
    obtain ⟨kind, hk⟩ := hkind hb
    rw [show run = _ from exec_mergeUse_inWindow ht hn hk hp (mergeDayOk_iff.mpr hday), mergeInWindow_surrendered hs,
      State.markOverUse_eq]
    rfl

theorem mergeKind_eq (a b : DayKind) : mergeKind a b = if a = .half ∧ b = .half then .half else .full := by
  cases a <;> cases b <;> rfl

/-- Settles O26: the entry of the day, its status and kind, and the room within D decide. -/
theorem mergeUseMergesTheDay : Obligations.MergeUseMergesTheDay := by
  intro tag n day kind s p ht hlo hhi hp hday hopened hfirst hlast hs run put g
  have hrun : run = .next ((mergeInWindow day kind p (s.taken officeLink)).1.reply officeLink 22 tag
      (mergeInWindow day kind p (s.taken officeLink)).2) :=
    exec_mergeUse_inWindow ht (passNumberOk_iff.mpr ⟨hlo, hhi⟩) (kindOf_code kind) hp
      (mergeDayOk_iff.mpr ⟨hday, hopened, hfirst, hlast⟩)
  have hmerged : ∀ (t : State) (uses : List DayUse) (r : MergeResult), t = s.taken officeLink ∨
      t = (s.taken officeLink).cutLink p.number →
      t.merged p uses r =
        (put uses t.lanes, .merged r uses.length (p.days - uses.length) g) := by
    rintro t uses r (rfl | rfl) <;> rfl
  rw [hrun]
  refine ⟨fun e he hf => ⟨fun hk hkind => ?_, fun hk => ?_⟩, fun e he ht => ?_, fun he hroom => ?_, fun he hfull => ?_⟩
  · rw [mergeInWindow_upgraded hs he hf hk hkind, hmerged _ _ _ (.inl rfl)]
    simp only [modUse, List.length_map]
    rfl
  · rw [mergeInWindow_noChange hs he hf hk]
    rfl
  · rw [mergeInWindow_finalised hs he ht, hmerged _ _ _ (.inr rfl)]
    simp only [modUse, mergeKind_eq, List.length_map]
    rfl
  · rw [mergeInWindow_inserted hs he hroom, hmerged _ _ _ (.inl rfl), length_insertUse]
    rfl
  · rw [mergeInWindow_overUse hs he hfull, State.markOverUse_eq]
    rfl

end Sys2Proof.Machine

/-! ## PRESENT that is granted (R26, R43, R66 to R70) -/

namespace Sys2Proof.Machine

/-! ### The lane of a lane link -/

theorem laneOfLink_linkOfLane (i : LaneNo) : laneOfLink (linkOfLane i) = some i := by
  simp [laneOfLink, laneOf, linkOfLane]

theorem roleOf_linkOfLane (i : LaneNo) : roleOf (linkOfLane i) = .lane := if_pos i.isLt

theorem onLinkLane_linkOfLane (i : LaneNo) (act : LaneNo → State → State × Answer) (s : State) :
    onLinkLane (linkOfLane i) act s = act i s := by
  simp [onLinkLane, laneOfLink_linkOfLane]

theorem State.taken_lane_self (s : State) (i : LaneNo) :
    (s.taken (linkOfLane i)).lane i = (s.lane i).revive s.clock := by
  rw [State.taken_lane, State.modLane_lane, if_pos rfl]
  rfl

theorem State.modLane_congr {s : State} {i : LaneNo} {f g : LaneUnit → LaneUnit} (h : f (s.lane i) = g (s.lane i)) :
    s.modLane i f = s.modLane i g := by
  unfold State.modLane
  rw [h]

@[simp] theorem State.taken_clock (s : State) (l : LinkNo) : (s.taken l).clock = s.clock := by rw [State.taken_eq]
@[simp] theorem State.taken_offset (s : State) (l : LinkNo) : (s.taken l).offset = s.offset := by rw [State.taken_eq]
@[simp] theorem State.taken_day (s : State) (l : LinkNo) : (s.taken l).day = s.day := by rw [State.taken_eq]
@[simp] theorem State.taken_lastOpened (s : State) (l : LinkNo) : (s.taken l).lastOpened = s.lastOpened := by
  rw [State.taken_eq]
@[simp] theorem State.taken_tariffs (s : State) (l : LinkNo) : (s.taken l).tariffs = s.tariffs := by
  rw [State.taken_eq]
@[simp] theorem State.taken_tariffOf (s : State) (l : LinkNo) (cls : Nat) :
    (s.taken l).tariffOf cls = s.tariffOf cls := by
  simp [State.tariffOf]

/-- A taken frame leaves every queue as it was. -/
@[simp] theorem State.taken_queue (s : State) (l : LinkNo) (i : LaneNo) :
    ((s.taken l).lane i).queue = (s.lane i).queue := by
  unfold State.taken State.reviveLink
  split
  · rw [State.modLane_lane]
    split
    · subst_vars; exact LaneUnit.revive_queue _ _
    · rfl
  · rfl

@[simp] theorem State.taken_creditOf (s : State) (l : LinkNo) (n : Nat) : (s.taken l).creditOf n = s.creditOf n := by
  simp [State.creditOf]

/-- A request on a lane's own link that takes it. -/
theorem exec_taken_linkLane {c : Instr} {i : LaneNo} {code tag : Nat} {act : LaneNo → State → State × Answer}
    {s : State} (hc : requestAction c = some (linkOfLane i, code, tag, onLinkLane (linkOfLane i) act))
    (ht : Takes s (linkOfLane i))
    (hcode : (bodyLength code).isSome = true) (hrole : roleMay code .lane = true) :
    exec c s = .next ((act i (s.taken (linkOfLane i))).1.reply (linkOfLane i) code tag
      (act i (s.taken (linkOfLane i))).2) := by
  rw [exec_taken hc ht hcode (by rwa [roleOf_linkOfLane]), onLinkLane_linkOfLane]

/-! ### The checks of R55 -/

variable {s : State} {i : LaneNo} {p : Pass}

theorem State.currentDay_opened (h : s.day = .opened) : s.currentDay = s.lastOpened := by
  simp [State.currentDay, h]

/-- What no check of a pass that was found denies. -/
theorem passDeny_eq_none (hstate : p.state = .active) (hfirst : p.firstDay ≤ s.currentDay)
    (hlast : s.currentDay ≤ p.lastDay) (hcredit : s.creditOf p.number = none)
    (hhold : ∀ h, p.holdEnd = some h → h ≤ s.clock)
    (hroom : findUse s.currentDay p.uses = none → p.uses.length ≠ p.days) : passDeny s p p.check = none := by
  have hpassback : ¬ p.holdEnd.any (s.clock < ·) = true := by
    cases hh : p.holdEnd with
    | none => simp
    | some h => simpa using hhold h hh
  have hfull : ¬ ((findUse s.currentDay p.uses).isNone = true ∧ p.uses.length = p.days) := fun ⟨hu, hd⟩ =>
    hroom (Option.isNone_iff_eq_none.mp hu) hd
  unfold passDeny
  rw [if_neg (not_not_intro rfl), if_neg (by simp [hstate]), if_neg (by simp [hstate]),
    if_neg (Nat.not_lt_of_le hfirst), if_neg (Nat.not_lt_of_le hlast), hcredit]
  exact (if_neg hpassback).trans (if_neg hfull)

theorem present_granted {n check : Nat} (hgate : (s.lane i).gate.inService = true) (hday : s.day = .opened)
    (hqueue : (s.lane i).queue.length < 2) (hp : s.findPass n = some p) (hok : passDeny s p check = none) :
    present n check i s = grant i p s := by
  have hroom : ¬ Config.queueSize ≤ (s.lane i).queue.length := Nat.not_le_of_lt hqueue
  simp [present, GateState.notInService, hgate, hday, hroom, hp, hok]

/-! ### The grant -/

theorem State.linkFirstUse_eq (s : State) (i : LaneNo) (p : Pass) :
    s.linkFirstUse i p = { s with
      passes := s.passes.map fun q =>
        if q.number = p.number ∧ firstUse s p ≠ none then Pass.addTentative s.currentDay i (firstUseKind s p) q
        else q } := by
  unfold State.linkFirstUse
  split
  · rename_i k hk
    have hkind : k = firstUseKind s p := by
      unfold firstUse at hk
      split_ifs at hk
      exact (Option.some.inj hk).symm
    simp only [hk, hkind, ne_eq, reduceCtorEq, not_false_eq_true, and_true]
    rfl
  · rename_i hk
    simp [hk]

/-- In service the gate state follows the queue with its new credit (R80). -/
theorem LaneUnit.enqueue_inService {u : LaneUnit} (h : u.gate.inService = true) (c : Credit) :
    u.enqueue c = { u with
      nextCredit := nextNumber u.nextCredit
      queue := u.queue ++ [c]
      counts := { u.counts with grants := satAdd u.counts.grants 1 }
      gate := gateOfQueue (u.queue ++ [c]) } := if_pos h

theorem grant_snd (i : LaneNo) (p : Pass) (s : State) :
    (grant i p s).2 = .grant (s.lane i).nextCredit (firstUse s p)
      (p.remaining - if (firstUse s p).isSome then 1 else 0) := rfl

/-- Settles O39: every check of `present` passes in the state its frame leaves, and `grant` is the state spelled out. -/
theorem presentGrantsACredit : Obligations.PresentGrantsACredit := by
  intro i tag n s p ht hgate hday hqueue hp hstate hfirst hlast hcredit hhold hroom u kind first credit t
  obtain ⟨-, rfl⟩ := State.findPass_eq_some hp
  let s' := s.taken (linkOfLane i)
  have hlane : s'.lane i = (s.lane i).revive s.clock := s.taken_lane_self i
  have hcurrent : s'.currentDay = s.lastOpened :=
    (State.currentDay_opened ((s.taken_day _).trans hday)).trans (s.taken_lastOpened _)
  have hok : passDeny s' p p.check = none := by
    refine passDeny_eq_none hstate ?_ ?_ ?_ ?_ ?_
    · rwa [hcurrent]
    · rwa [hcurrent]
    · rwa [State.taken_creditOf, State.creditOf_eq_none]
    · rwa [State.taken_clock]
    · rwa [hcurrent]
  have hgrant : present p.number p.check i s' = grant i p s' :=
    present_granted (by rw [hlane]; exact hgate) ((s.taken_day _).trans hday) (by rw [hlane]; exact hqueue)
      ((s.taken_findPass _ _).trans hp) hok
  have hkind : firstUseKind s' p = kind := by
    unfold firstUseKind State.minute State.timeOfDay
    rw [State.taken_tariffOf, State.taken_clock, State.taken_offset]
    rfl
  have hfirstUse : firstUse s' p = first := by
    unfold firstUse
    simp only [hcurrent, hkind, Option.isNone_iff_eq_none]
    rfl
  have hcreditNew : newCredit s' i p = credit := by
    unfold newCredit
    rw [hfirstUse, hlane, State.taken_clock]
    rfl
  have hgate' : (s'.lane i).gate.inService = true := by rw [hlane]; exact hgate
  have hstored : (s'.linkFirstUse i p).modLane i (LaneUnit.enqueue (newCredit s' i p)) = t := by
    rw [State.linkFirstUse_eq, hcreditNew, hfirstUse, hkind, hcurrent, State.taken_passes]
    exact State.modLane_congr (LaneUnit.enqueue_inService hgate' credit)
  have hanswer : (grant i p s').2 =
      .grant u.nextCredit first (p.days - p.uses.length - if first = none then 0 else 1) := by
    rw [grant_snd, hfirstUse, hlane]
    cases first <;> rfl
  have hnext : (grant i p s').1 = if u.queue = [] then t.offer i else t := by
    rw [grant_fst, hstored, State.taken_queue]
  rw [exec_taken_linkLane (act := present p.number p.check) rfl ht rfl rfl, hgrant, hanswer, hnext]

end Sys2Proof.Machine

/-! ## Withdrawals while the day is not CLOSING (R28, R103, R116)

What one withdrawal is, then what the withdrawals of one event add up to, over a list of lanes and credits. -/

namespace Sys2Proof.Machine

/-! ### Updates of a lane move past the Journal and the raised pairs -/

theorem State.modLane_append (s : State) (i : LaneNo) (f : LaneUnit → LaneUnit) (b : JournalBody) :
    (s.modLane i f).append b = (s.append b).modLane i f := rfl

theorem State.modLane_raise (s : State) (i : LaneNo) (f : LaneUnit → LaneUnit) (p : EventPair) :
    (s.modLane i f).raise p = (s.raise p).modLane i f := by
  have hlinks : ((s.modLane i f).raise p).links = (s.raise p).links := Eight.ext_get fun l => by
    have hl := (s.modLane i f).raise_link p l
    rw [State.modLane_link, State.modLane_levels, ← State.raise_link] at hl
    exact hl
  rw [State.raise_eq, hlinks, s.raise_eq p]
  rfl

theorem State.modLane_modLane (s : State) (i : LaneNo) (f g : LaneUnit → LaneUnit) :
    (s.modLane i f).modLane i g = s.modLane i fun u => g (f u) := by
  show (s.modLane i f).setLane i (g ((s.modLane i f).lane i)) = _
  rw [State.setLane_modLane, State.modLane_lane, if_pos rfl]
  rfl

theorem State.closeIfDrained_of_ne {s : State} (h : s.day ≠ .closing) : s.closeIfDrained = s :=
  if_neg fun hc => h hc.1

/-- A first-use link that ends touches the pass list alone. -/
theorem State.settleLink_eq (s : State) (c : Credit) (o : CreditOutcome) :
    s.settleLink c o = { s with passes := (s.settleLink c o).passes } := by
  unfold State.settleLink
  split <;> rfl

/-! ### One withdrawal -/

/-- The CREDIT ENDED record of a withdrawal (R160). -/
def withdrawalRecord (cause : Cause) (w : LaneNo × Credit) : JournalBody :=
  .creditEnded w.1 w.2.pass w.2.number (.withdrawn cause) w.2.firstUse.isSome

/-- The steps of R103 for a withdrawal that leaves the day as it is. -/
theorem State.endCredit_withdrawn {s : State} {i : LaneNo} {place : Nat} {c : Credit} (cause : Cause)
    (h : (s.lane i).queue[place]? = some c) (hday : s.day ≠ .closing) :
    s.endCredit i place (.withdrawn cause) =
      (((s.settleLink c (.withdrawn cause)).append (withdrawalRecord cause (i, c))).raiseAt .creditEnded i).modLane i
        (LaneUnit.ended place c (.withdrawn cause)) := by
  have hday' : (s.settleLink c (.withdrawn cause)).day ≠ .closing := by rw [State.settleLink_eq]; exact hday
  have hne : ¬ CreditOutcome.withdrawn cause = .passed := by simp
  unfold State.endCredit
  rw [h]
  dsimp only
  simp only [hne, if_false, State.settleLink_modLane, State.modLane_modLane, State.modLane_append, State.raiseAt,
    State.modLane_raise, decide_true, ne_eq, not_false_eq_true, Bool.and_true]
  rw [State.closeIfDrained_of_ne (by simpa using hday')]
  rfl

/-- Two states between which the Journal and what stamps its records agree (R157 to R159). -/
structure SameLog (s t : State) : Prop where
  journal : t.journal = s.journal
  nextSeq : t.nextSeq = s.nextSeq
  clockSet : t.clockSet = s.clockSet
  clock : t.clock = s.clock
  offset : t.offset = s.offset
  day : t.day = s.day
  lastOpened : t.lastOpened = s.lastOpened

theorem SameLog.refl (s : State) : SameLog s s := ⟨rfl, rfl, rfl, rfl, rfl, rfl, rfl⟩

theorem SameLog.trans {s t u : State} (h : SameLog s t) (k : SameLog t u) : SameLog s u :=
  ⟨k.journal.trans h.journal, k.nextSeq.trans h.nextSeq, k.clockSet.trans h.clockSet, k.clock.trans h.clock,
    k.offset.trans h.offset, k.day.trans h.day, k.lastOpened.trans h.lastOpened⟩

theorem SameLog.append {s t : State} (h : SameLog s t) (b : JournalBody) : SameLog (s.append b) (t.append b) where
  journal := by
    simp only [State.append_journal, State.stamp, State.currentDay, State.timeOfDay, h.journal, h.nextSeq, h.clockSet,
      h.clock, h.offset, h.day, h.lastOpened]
  nextSeq := by simp [h.nextSeq]
  clockSet := h.clockSet
  clock := h.clock
  offset := h.offset
  day := h.day
  lastOpened := h.lastOpened

theorem SameLog.appendAll {s t : State} (h : SameLog s t) (bs : List JournalBody) :
    SameLog (bs.foldl State.append s) (bs.foldl State.append t) := by
  induction bs generalizing s t with
  | nil => exact h
  | cons b bs ih => exact ih (h.append b)

theorem SameLog.toDay {s t : State} (h : SameLog s t) (d : DayState) :
    SameLog { s with day := d } { t with day := d } := { h with day := rfl }

theorem SameLog.modLane (s : State) (i : LaneNo) (f : LaneUnit → LaneUnit) : SameLog s (s.modLane i f) :=
  ⟨rfl, rfl, rfl, rfl, rfl, rfl, rfl⟩

theorem SameLog.raise (s : State) (p : EventPair) : SameLog s (s.raise p) := by
  constructor <;> simp

theorem SameLog.settleLink (s : State) (c : Credit) (o : CreditOutcome) : SameLog s (s.settleLink c o) := by
  rw [State.settleLink_eq]
  exact ⟨rfl, rfl, rfl, rfl, rfl, rfl, rfl⟩

/-! ### The pass list after withdrawals -/

/-- A record after `k` withdrawals of linked credits of its pass: its TENTATIVE entry gone, the generation raised by
each (R28). -/
def Pass.takeBack (k : Nat) (p : Pass) : Pass :=
  if k = 0 then p
  else { p with uses := removeTentative p.uses, generation := (p.generation + k) % 65536 }

@[simp] theorem Pass.takeBack_zero (p : Pass) : p.takeBack 0 = p := rfl

@[simp] theorem Pass.takeBack_number (k : Nat) (p : Pass) : (p.takeBack k).number = p.number := by
  unfold Pass.takeBack; split <;> rfl

theorem removeTentative_idem (us : List DayUse) : removeTentative (removeTentative us) = removeTentative us := by
  simp [removeTentative]

theorem Pass.takeBack_takeBack (p : Pass) (a b : Nat) : (p.takeBack a).takeBack b = p.takeBack (a + b) := by
  unfold Pass.takeBack
  by_cases ha : a = 0
  · simp [ha]
  · by_cases hb : b = 0
    · simp [hb]
    · have hab : ¬ a + b = 0 := by omega
      have hg : ((p.generation + a) % 65536 + b) % 65536 = (p.generation + (a + b)) % 65536 := by omega
      simp only [ha, hb, hab, if_false, removeTentative_idem, hg]

/-- How many of these credits are of a pass and carry a first-use link. -/
def linksOf (n : Nat) (ws : List (LaneNo × Credit)) : Nat := ws.countP fun w => w.2.ticket = (n, true)

theorem State.settleLink_withdrawn (s : State) (i : LaneNo) (c : Credit) (cause : Cause) :
    (s.settleLink c (.withdrawn cause)).passes = s.passes.map fun p => p.takeBack (linksOf p.number [(i, c)]) := by
  unfold State.settleLink
  split
  · rename_i hlink
    rw [State.modPass_passes]
    refine List.map_congr_left fun p _ => ?_
    by_cases hp : p.number = c.pass
    · simp [hp, linksOf, Credit.ticket, hlink, Pass.takeBack, bump]
    · simp [hp, linksOf, Credit.ticket, Ne.symm hp]
  · rename_i hlink
    simp [linksOf, Credit.ticket, hlink]

/-! ### The withdrawals of one event -/

/-- What the withdrawals of these credits, in this order, change outside the lanes. -/
structure Withdrew (cause : Cause) (ws : List (LaneNo × Credit)) (s t : State) : Prop where
  ends : Ends s t
  passes : t.passes = s.passes.map fun p => p.takeBack (linksOf p.number ws)
  logged : SameLog ((ws.map (withdrawalRecord cause)).foldl State.append s) t
  pairs : ∀ l q, q ∈ (t.link l).pairs ↔
    q ∈ (s.link l).pairs ∨ ∃ w ∈ ws, q = .atLane .creditEnded w.1 ∧ inScope q l = true

theorem Withdrew.refl (cause : Cause) (s : State) : Withdrew cause [] s s where
  ends := Ends.refl s
  passes := by simp [linksOf]
  logged := SameLog.refl s
  pairs := by simp

theorem Withdrew.trans {cause : Cause} {ws xs : List (LaneNo × Credit)} {s t u : State} (h : Withdrew cause ws s t)
    (k : Withdrew cause xs t u) : Withdrew cause (ws ++ xs) s u where
  ends := h.ends.trans k.ends
  passes := by
    rw [k.passes, h.passes, List.map_map]
    refine List.map_congr_left fun p _ => ?_
    simp [Pass.takeBack_takeBack, linksOf]
  logged := by
    rw [List.map_append, List.foldl_append]
    exact (h.logged.appendAll _).trans k.logged
  pairs := fun l q => by
    rw [k.pairs, h.pairs]
    simp only [List.mem_append, or_and_right, exists_or, or_assoc]

theorem State.appendAll_day (s : State) (bs : List JournalBody) : (bs.foldl State.append s).day = s.day := by
  induction bs generalizing s with
  | nil => rfl
  | cons b bs ih => exact ih (s.append b)

theorem Withdrew.day {cause : Cause} {ws : List (LaneNo × Credit)} {s t : State} (h : Withdrew cause ws s t) :
    t.day = s.day := h.logged.day.trans (State.appendAll_day s _)

theorem mem_pairs_raise (s : State) (p q : EventPair) (l : LinkNo) :
    q ∈ ((s.raise p).link l).pairs ↔ q ∈ (s.link l).pairs ∨ (q = p ∧ inScope p l = true) := by
  rw [State.raise_link]
  split
  · rename_i hp
    simp only [Endpoint.raise, Endpoint.decide, mem_insertPair, hp, and_true]
    exact or_comm
  · rename_i hp
    simp [hp]

theorem Withdrew.endCredit {s : State} {i : LaneNo} {place : Nat} {c : Credit} (cause : Cause)
    (h : (s.lane i).queue[place]? = some c) (hday : s.day ≠ .closing) :
    Withdrew cause [(i, c)] s (s.endCredit i place (.withdrawn cause)) where
  ends := Ends.endCredit s i place _
  passes := by
    rw [State.endCredit_passes h, if_neg (by simp), State.settleLink_withdrawn s i]
  logged := by
    rw [State.endCredit_withdrawn cause h hday]
    exact ((SameLog.settleLink s c _).append _).trans ((SameLog.raise _ _).trans (SameLog.modLane _ i _))
  pairs := fun l q => by
    have hlink : ∀ k, (s.settleLink c (.withdrawn cause)).link k = s.link k := fun k => by
      rw [State.settleLink_eq]; rfl
    rw [State.endCredit_withdrawn cause h hday, State.modLane_link, State.raiseAt, mem_pairs_raise, State.append_link,
      hlink]
    refine or_congr Iff.rfl ?_
    simp only [List.mem_singleton, exists_eq_left]
    exact ⟨fun ⟨e, hs⟩ => ⟨e, e ▸ hs⟩, fun ⟨e, hs⟩ => ⟨e, e ▸ hs⟩⟩

/-! ### The lane of the withdrawals -/

/-- What the withdrawals of these credits, head first, change in their lane. -/
structure LaneWithdrew (cause : Cause) (ended : List Credit) (u v : LaneUnit) : Prop where
  same : ended = [] → v = u
  counts : ended ≠ [] →
    v.counts = { u.counts with withdrawn := min (u.counts.withdrawn + ended.length) countTop }
  lastEnded : ended ≠ [] → v.lastEnded = ended.getLast?.map fun c => (c.number, .withdrawn cause)
  gate : ended ≠ [] → u.gate.inService = true → v.gate = gateOfQueue v.queue

theorem LaneWithdrew.nil (cause : Cause) (u : LaneUnit) : LaneWithdrew cause [] u u :=
  ⟨fun _ => rfl, fun h => absurd rfl h, fun h => absurd rfl h, fun h => absurd rfl h⟩

theorem gateOfQueue_inService (q : List Credit) : (gateOfQueue q).inService = true := by
  cases q with
  | nil => rfl
  | cons c cs => cases hc : c.state <;> simp [gateOfQueue, gateOfCredit, hc, GateState.inService]

section Ended
variable (u : LaneUnit) (place : Nat) (c : Credit) (o : CreditOutcome)

theorem LaneUnit.ended_counts : (u.ended place c o).counts = u.counts.countOutcome o := by
  unfold LaneUnit.ended LaneUnit.offIfDrained LaneUnit.follow LaneUnit.toOff
  split_ifs <;> rfl

theorem LaneUnit.ended_lastEnded : (u.ended place c o).lastEnded = some (c.number, o) := by
  unfold LaneUnit.ended LaneUnit.offIfDrained LaneUnit.follow LaneUnit.toOff
  split_ifs <;> rfl

variable {u}

/-- In service the gate state follows the queue that is left, and the lane does not go to OFF. -/
theorem LaneUnit.ended_gate (h : u.gate.inService = true) :
    (u.ended place c o).gate = gateOfQueue (u.ended place c o).queue := by
  rw [LaneUnit.ended_queue]
  have hfollow : LaneUnit.follow
      { u.dequeue place c with counts := u.counts.countOutcome o, lastEnded := some (c.number, o) } =
      { u.dequeue place c with
        counts := u.counts.countOutcome o, lastEnded := some (c.number, o)
        gate := gateOfQueue (u.queue.eraseIdx place) } := if_pos h
  have hne : gateOfQueue (u.queue.eraseIdx place) ≠ .closing := fun e => by
    have := gateOfQueue_inService (u.queue.eraseIdx place)
    rw [e] at this
    cases this
  unfold LaneUnit.ended
  rw [hfollow, LaneUnit.offIfDrained, if_neg fun hc => hne hc.1]

end Ended

/-- One withdrawal before the others. -/
theorem LaneWithdrew.cons {cause : Cause} {c : Credit} {cs : List Credit} {u v : LaneUnit} {place : Nat}
    (h : LaneWithdrew cause cs (u.ended place c (.withdrawn cause)) v) : LaneWithdrew cause (c :: cs) u v := by
  have hcounts := u.ended_counts place c (.withdrawn cause)
  have hlast := u.ended_lastEnded place c (.withdrawn cause)
  rw [LaneCounts.countOutcome] at hcounts
  refine ⟨fun e => absurd e (List.cons_ne_nil c cs), fun _ => ?_, fun _ => ?_, fun _ hg => ?_⟩
  all_goals by_cases hrest : cs = []
  · rw [h.same hrest, hcounts, hrest]
    rfl
  · have hmin : min (satAdd u.counts.withdrawn 1 + cs.length) countTop =
        min (u.counts.withdrawn + (c :: cs).length) countTop := by
      simp only [satAdd, List.length_cons]
      omega
    rw [h.counts hrest, hcounts]
    exact congrArg (fun n => ({ u.counts with withdrawn := n } : LaneCounts)) hmin
  · rw [h.same hrest, hlast, hrest]
    rfl
  · rw [h.lastEnded hrest, List.getLast?_cons_of_ne_nil hrest]
  · rw [h.same hrest]
    exact LaneUnit.ended_gate _ _ _ hg
  · refine h.gate hrest ?_
    rw [LaneUnit.ended_gate _ _ _ hg]
    exact gateOfQueue_inService _

/-- The withdrawals of one event from a place of a lane's queue on: what they add up to, in the lane and outside. -/
theorem withdrawFrom_withdrew {i : LaneNo} (cause : Cause) (which : Credit → Bool) (q : List Credit) :
    ∀ (kept : List Credit) (s : State), (s.lane i).queue = kept ++ q → s.day ≠ .closing →
      let t := withdrawFrom i cause which q kept.length s
      Withdrew cause ((q.filter which).map fun c => (i, c)) s t ∧
        LaneWithdrew cause (q.filter which) (s.lane i) (t.lane i) ∧
        (t.lane i).queue = kept ++ q.filter (fun c => !which c) ∧ ∀ j, j ≠ i → t.lane j = s.lane j := by
  induction q with
  | nil =>
    intro kept s hq _
    exact ⟨Withdrew.refl cause s, LaneWithdrew.nil cause _, hq, fun _ _ => rfl⟩
  | cons c cs ih =>
    intro kept s hq hday
    unfold withdrawFrom
    split
    · rename_i hc
      have hget : (s.lane i).queue[kept.length]? = some c := by simp [hq]
      have hone := Withdrew.endCredit cause hget hday
      have hlane := State.endCredit_lane (o := .withdrawn cause) hget
      have hself : (s.endCredit i kept.length (.withdrawn cause)).lane i =
          (s.lane i).ended kept.length c (.withdrawn cause) := (hlane i).trans (if_pos rfl)
      have hqueue : ((s.endCredit i kept.length (.withdrawn cause)).lane i).queue = kept ++ cs := by
        rw [hself, LaneUnit.ended_queue, hq, List.eraseIdx_append_of_length_le (Nat.le_refl _), Nat.sub_self]
        rfl
      obtain ⟨hw, hl, hrest, helse⟩ := ih kept _ hqueue (by rw [hone.day]; exact hday)
      rw [hself] at hl
      rw [List.filter_cons_of_pos hc]
      refine ⟨hone.trans hw, hl.cons, ?_, fun j hj => ?_⟩
      · rw [hrest, List.filter_cons_of_neg (by simp [hc])]
      · rw [helse j hj, hlane j, if_neg hj]
    · rename_i hc
      have hkept : (s.lane i).queue = (kept ++ [c]) ++ cs := by simp [hq]
      obtain ⟨hw, hl, hrest, helse⟩ := ih (kept ++ [c]) s hkept hday
      rw [List.length_append, List.length_singleton] at hw hl hrest helse
      rw [List.filter_cons_of_neg hc]
      refine ⟨hw, hl, ?_, helse⟩
      rw [hrest, List.filter_cons_of_pos (by simpa using hc), List.append_assoc]
      rfl

end Sys2Proof.Machine

/-! ## CLOSE DAY (R47 to R50) -/

namespace Sys2Proof.Machine

/-- The credits of these lanes that an event withdraws, lane by lane and head first (R116). -/
def State.withdrawn (s : State) (which : Credit → Bool) (is : List LaneNo) : List (LaneNo × Credit) :=
  is.flatMap fun i => ((s.lane i).queue.filter which).map fun c => (i, c)

/-- One lane's part in the withdrawals of an event: the queue that is left, and what they add up to in the lane. -/
structure LaneDrained (cause : Cause) (which : Credit → Bool) (u v : LaneUnit) : Prop where
  queue : v.queue = u.queue.filter fun c => !which c
  withdrew : LaneWithdrew cause (u.queue.filter which) u v

/-- The withdrawals of one event in one lane. -/
theorem State.withdraw_withdrew (s : State) (i : LaneNo) (cause : Cause) (which : Credit → Bool)
    (hday : s.day ≠ .closing) :
    Withdrew cause (s.withdrawn which [i]) s (s.withdraw i cause which) ∧
      LaneDrained cause which (s.lane i) ((s.withdraw i cause which).lane i) ∧
      ∀ j, j ≠ i → (s.withdraw i cause which).lane j = s.lane j := by
  obtain ⟨hw, hl, hqueue, helse⟩ := withdrawFrom_withdrew cause which (s.lane i).queue [] s rfl hday
  refine ⟨?_, ⟨hqueue, hl⟩, helse⟩
  rw [State.withdrawn, List.flatMap_singleton]
  exact hw

/-- The withdrawals of one event in several lanes. -/
theorem State.withdrawLanes_withdrew (cause : Cause) (which : Credit → Bool) (is : List LaneNo) (s : State)
    (hn : is.Nodup) (hday : s.day ≠ .closing) :
    let t := is.foldl (fun t i => t.withdraw i cause which) s
    Withdrew cause (s.withdrawn which is) s t ∧ (∀ i ∈ is, LaneDrained cause which (s.lane i) (t.lane i)) ∧
      ∀ i, i ∉ is → t.lane i = s.lane i := by
  induction is generalizing s with
  | nil => exact ⟨Withdrew.refl cause s, fun _ hi => absurd hi List.not_mem_nil, fun _ _ => rfl⟩
  | cons i is ih =>
    obtain ⟨hi, his⟩ := List.nodup_cons.mp hn
    obtain ⟨hw, hl, helse⟩ := s.withdraw_withdrew i cause which hday
    obtain ⟨hws, hls, helses⟩ := ih (s.withdraw i cause which) his (by rw [hw.day]; exact hday)
    have hne : ∀ j ∈ is, j ≠ i := fun j hj e => hi (e ▸ hj)
    have hrest : (s.withdraw i cause which).withdrawn which is = s.withdrawn which is :=
      List.flatMap_congr fun j hj => by rw [helse j (hne j hj)]
    rw [hrest] at hws
    refine ⟨?_, fun j hj => ?_, fun j hj => ?_⟩
    · have hall : s.withdrawn which (i :: is) = s.withdrawn which [i] ++ s.withdrawn which is := by
        simp [State.withdrawn]
      rw [hall]
      exact hw.trans hws
    · rw [List.foldl_cons]
      rcases List.mem_cons.mp hj with rfl | hj
      · rw [helses j hi]
        exact hl
      · have hd := hls j hj
        rwa [helse j (hne j hj)] at hd
    · have hji : j ≠ i := fun e => hj (e ▸ List.mem_cons_self)
      have hjs : j ∉ is := fun hm => hj (List.mem_cons_of_mem i hm)
      rw [List.foldl_cons, helses j hjs, helse j hji]

/-- CLOSE DAY's withdrawals, over the six lanes. -/
theorem State.withdrawAll_withdrew (s : State) (hday : s.day ≠ .closing) :
    Withdrew .dayClosing (s.withdrawn Credit.notUnlocked allLanes) s s.withdrawAll ∧
      ∀ i, LaneDrained .dayClosing Credit.notUnlocked (s.lane i) (s.withdrawAll.lane i) := by
  obtain ⟨hw, hl, -⟩ := State.withdrawLanes_withdrew .dayClosing Credit.notUnlocked allLanes s (by decide) hday
  exact ⟨hw, fun i => hl i (mem_allLanes i)⟩

/-! ### Counts over the credits -/

theorem State.countP_credits (s : State) (f : Credit → Bool) :
    s.credits.countP f = (allLanes.map fun i => (s.lane i).queue.countP f).sum := by
  simp [State.credits, Six.toList_eq, List.countP_flatMap, State.lane, Function.comp_def]

theorem linksOf_withdrawn (s : State) (which : Credit → Bool) (n : Nat) :
    linksOf n (s.withdrawn which allLanes) =
      s.credits.countP fun c => decide (c.pass = n ∧ c.firstUse ≠ none) && which c := by
  rw [State.countP_credits, linksOf, State.withdrawn, List.countP_flatMap]
  congr 2
  funext i
  simp only [Function.comp, List.countP_map, List.countP_filter]
  congr 1
  funext c
  rw [Bool.eq_iff_iff]
  simp [Credit.ticket, Option.isSome_iff_ne_none]

theorem State.allEmpty_iff (s : State) : s.allEmpty = true ↔ s.credits = [] := by
  simp [State.allEmpty, State.credits]

/-! ### The close -/

/-- What CLOSE DAY does after its withdrawals: the day CLOSING, and CLOSED with no credit left (R47, R48). -/
def State.endAdmission (s : State) : State := State.closeIfDrained { s with day := .closing }

/-- With a credit left the day is CLOSING and nothing else changes. -/
theorem State.endAdmission_of_credit {s : State} (h : s.credits ≠ []) : s.endAdmission = { s with day := .closing } :=
  if_neg fun hc => h ((State.allEmpty_iff _).mp hc.2)

/-- With no credit left the day is CLOSED (R49). -/
theorem State.endAdmission_of_drained {s : State} (h : s.credits = []) :
    s.endAdmission =
      (State.append { s with day := .closed } (.dayClosed s.lastOpened (s.sumCounts LaneCounts.passages)
        (s.sumCounts fun c => c.tailgates + c.forced))).raise (.lift .dayState) :=
  if_pos ⟨rfl, (State.allEmpty_iff _).mpr h⟩

section EndAdmission
variable (s : State)

theorem State.endAdmission_passes : s.endAdmission.passes = s.passes := State.closeIfDrained_passes _

theorem State.endAdmission_lane (i : LaneNo) : s.endAdmission.lane i = s.lane i := State.closeIfDrained_lane _ i

theorem State.endAdmission_ends : Ends s s.endAdmission := (Ends.toDay s .closing).trans (Ends.closeIfDrained _)

theorem State.credits_congr {s t : State} (h : ∀ i, (t.lane i).queue = (s.lane i).queue) : t.credits = s.credits := by
  simp only [State.credits, Six.toList_eq, List.flatMap_map]
  exact List.flatMap_congr fun i _ => h i

theorem State.sumCounts_congr {s t : State} (h : ∀ i, t.lane i = s.lane i) (f : LaneCounts → Nat) :
    t.sumCounts f = s.sumCounts f := by
  unfold State.sumCounts
  rw [show t.lanes = s.lanes from Six.ext_get h]

theorem State.endAdmission_credits : s.endAdmission.credits = s.credits :=
  State.credits_congr fun i => by rw [s.endAdmission_lane]

theorem State.endAdmission_day : s.endAdmission.day = if s.credits = [] then .closed else .closing := by
  split
  · rename_i h
    rw [State.endAdmission_of_drained h]
    simp
  · rename_i h
    rw [State.endAdmission_of_credit h]

theorem State.endAdmission_pairs (l : LinkNo) (q : EventPair) :
    q ∈ (s.endAdmission.link l).pairs ↔ q ∈ (s.link l).pairs ∨ (s.credits = [] ∧ q = .lift .dayState) := by
  by_cases h : s.credits = []
  · rw [State.endAdmission_of_drained h, mem_pairs_raise]
    simp only [h, inScope_lift, and_true, true_and]
    rfl
  · rw [State.endAdmission_of_credit h]
    simp only [h, false_and, or_false]
    rfl

/-- The Journal after the close, over any state that agrees with it so far. -/
theorem State.endAdmission_journal {r : State} (h : SameLog r s) :
    if s.endAdmission.credits = [] then
      s.endAdmission.journal = (State.append { r with day := .closed } (.dayClosed s.lastOpened
        (s.endAdmission.sumCounts LaneCounts.passages)
        (s.endAdmission.sumCounts fun c => c.tailgates + c.forced))).journal
    else s.endAdmission.journal = r.journal := by
  simp only [State.endAdmission_credits, State.sumCounts_congr s.endAdmission_lane]
  split
  · rename_i hc
    rw [State.endAdmission_of_drained hc, State.raise_journal]
    exact ((h.toDay .closed).append _).journal
  · rename_i hc
    rw [State.endAdmission_of_credit hc]
    exact h.journal

end EndAdmission

theorem closeDay_closed {s : State} (h : s.day = .closed) : closeDay s = (s, .alreadyClosed) := by
  simp [closeDay, h]

theorem closeDay_closing {s : State} (h : s.day = .closing) : closeDay s = (s, .alreadyClosing s.credits.length) := by
  simp [closeDay, h, State.queued_eq_length_credits]

theorem closeDay_opened {s : State} (h : s.day = .opened) :
    closeDay s = (s.withdrawAll.endAdmission,
      .dayClosing s.withdrawAll.endAdmission.day (s.credits.countP Credit.notUnlocked)) := by
  simp only [closeDay, h, State.countP_credits]
  rfl

theorem removeTentative_eq (us : List DayUse) : removeTentative us = us.filter fun x => decide (x.status = .final) := by
  refine List.filter_congr fun u _ => ?_
  cases u.status <;> simp

theorem mem_withdrawn {s : State} {which : Credit → Bool} {i : LaneNo} :
    (∃ w ∈ s.withdrawn which allLanes, w.1 = i) ↔ (s.lane i).queue.filter which ≠ [] := by
  simp only [State.withdrawn, List.mem_flatMap, List.mem_map]
  constructor
  · rintro ⟨_, ⟨j, -, c, hc, rfl⟩, rfl⟩
    exact List.ne_nil_of_mem hc
  · intro h
    obtain ⟨c, hc⟩ := List.exists_mem_of_ne_nil _ h
    exact ⟨(i, c), ⟨i, mem_allLanes i, c, hc, rfl⟩, rfl⟩

@[simp] theorem State.taken_pairs (s : State) (l k : LinkNo) : ((s.taken l).link k).pairs = (s.link k).pairs := by
  rw [State.taken_link]
  split
  · subst_vars; rfl
  · rfl

theorem withdrawn_records (s : State) (which : Credit → Bool) (cause : Cause) :
    (s.withdrawn which allLanes).map (withdrawalRecord cause) =
      ([0, 1, 2, 3, 4, 5] : List LaneNo).flatMap fun i => ((s.lane i).queue.filter which).map fun c =>
        .creditEnded i c.pass c.number (.withdrawn cause) (decide (c.firstUse ≠ none)) := by
  have hlink : ∀ c : Credit, c.firstUse.isSome = decide (c.firstUse ≠ none) := fun c => by
    cases c.firstUse <;> rfl
  simp only [State.withdrawn, List.map_flatMap, List.map_map, ← hlink]
  rfl

/-- Settles O33: the withdrawals of the six lanes add up, and the close of the day follows. -/
theorem closeDayEndsAdmission : Obligations.CloseDayEndsAdmission := by
  intro tag s ht ends records
  have hrun : exec (.closeDay officeLink tag) s = .next ((closeDay (s.taken officeLink)).1.reply officeLink 29 tag
      (closeDay (s.taken officeLink)).2) := exec_taken rfl ht rfl rfl
  have hday' : (s.taken officeLink).day = s.day := s.taken_day _
  rw [hrun]
  refine ⟨fun hday => ?_, fun hday => ?_, fun hday => ?_⟩
  · rw [closeDay_closed (hday'.trans hday)]
    rfl
  · rw [closeDay_closing (hday'.trans hday)]
    rfl
  · have hcredits : (s.taken officeLink).credits = s.credits := rfl
    obtain ⟨hw, hl⟩ := (s.taken officeLink).withdrawAll_withdrew (by rw [hday', hday]; decide)
    rw [closeDay_opened (hday'.trans hday), hcredits]
    generalize (s.taken officeLink).withdrawAll = w at hw hl
    have hcounted : ∀ i, LaneDrained .dayClosing Credit.notUnlocked (s.lane i) (w.endAdmission.lane i) := fun i => by
      rw [w.endAdmission_lane]
      exact hl i
    have hends : Ends (s.taken officeLink) w.endAdmission := hw.ends.trans w.endAdmission_ends
    have hopened : w.lastOpened = s.lastOpened := hw.ends.lastOpened
    have hlogged : SameLog (records.foldl State.append s) w := by
      have htaken : SameLog s (s.taken officeLink) := ⟨rfl, rfl, rfl, rfl, rfl, rfl, rfl⟩
      have hrecords : ((s.taken officeLink).withdrawn Credit.notUnlocked allLanes).map (withdrawalRecord .dayClosing) =
        records := withdrawn_records _ _ _
      rw [← hrecords]
      exact (htaken.appendAll _).trans hw.logged
    refine ⟨w.endAdmission, rfl, fun i => (hcounted i).queue, fun i hi => (hcounted i).withdrew.same hi,
      fun i hi => ⟨(hcounted i).withdrew.counts hi, (hcounted i).withdrew.lastEnded hi, (hcounted i).withdrew.gate hi⟩,
      ?_, ?_, fun l q => ?_, ?_, hends.lastOpened, hends.clock, hends.pacer, hends.tariffs, hends.free⟩
    · rw [w.endAdmission_passes, hw.passes]
      refine List.map_congr_left fun p _ => ?_
      rw [linksOf_withdrawn, Pass.takeBack, removeTentative_eq]
      rfl
    · rw [← hopened]
      exact w.endAdmission_journal hlogged
    · rw [w.endAdmission_pairs, hw.pairs, w.endAdmission_credits, State.taken_pairs, or_assoc]
      refine or_congr Iff.rfl (or_congr ⟨?_, ?_⟩ Iff.rfl)
      · rintro ⟨x, hx, he, hs⟩
        exact ⟨x.1, mem_withdrawn.mp ⟨x, hx, rfl⟩, he, hs⟩
      · rintro ⟨i, hi, he, hs⟩
        obtain ⟨x, hx, rfl⟩ := mem_withdrawn.mpr hi
        exact ⟨x, hx, he, hs⟩
    · rw [w.endAdmission_day, w.endAdmission_credits]

end Sys2Proof.Machine

/-! ## What the laws of the day, the balance, the pacer and the ranges read

`Keeps s t` says that `t` keeps each of these laws that `s` has. It is proved once for each operation, composed along
the events and requests, and gives both statements on every step. -/

namespace Sys2Proof.Machine

/-! ### One lane's balance (R121) -/

/-- The counts of R121: grants, and the four outcomes. -/
def LaneCounts.ledger (c : LaneCounts) : Nat × Nat × Nat × Nat × Nat :=
  (c.grants, c.passages, c.expiredUnreleased, c.expiredUnused, c.withdrawn)

/-- `BalanceLaw` of one lane. -/
def LaneUnit.Balanced (u : LaneUnit) : Prop :=
  u.counts.saturated ∨
    u.counts.grants = u.counts.passages + u.counts.expiredUnreleased + u.counts.expiredUnused + u.counts.withdrawn +
      u.queue.length

/-- The five counts and the length of the queue decide. -/
theorem LaneUnit.Balanced.congr {u v : LaneUnit} (h : u.Balanced) (hc : v.counts.ledger = u.counts.ledger)
    (hq : v.queue.length = u.queue.length) : v.Balanced := by
  simp only [LaneCounts.ledger, Prod.mk.injEq] at hc
  obtain ⟨hg, hp, hr, hu, hw⟩ := hc
  unfold LaneUnit.Balanced LaneCounts.saturated at *
  rwa [hg, hp, hr, hu, hw, hq]

theorem LaneUnit.balanced_of_zero {u : LaneUnit} (hc : u.counts = LaneCounts.zero) (hq : u.queue = []) :
    u.Balanced := by
  refine .inr ?_
  rw [hc, hq]
  rfl

/-- The end of a credit moves one from the queue to an outcome count (R103, R119). -/
theorem LaneUnit.Balanced.ended {u : LaneUnit} (h : u.Balanced) {place : Nat} (hp : place < u.queue.length) (c : Credit)
    (o : CreditOutcome) : (u.ended place c o).Balanced := by
  have hlen := List.length_eraseIdx_of_lt hp
  unfold LaneUnit.Balanced LaneCounts.saturated at *
  rw [LaneUnit.ended_counts, LaneUnit.ended_queue, hlen]
  cases o <;> simp only [LaneCounts.countOutcome, satAdd] <;> omega

/-- A grant moves one into the queue (R66). -/
theorem LaneUnit.Balanced.enqueue {u : LaneUnit} (h : u.Balanced) (c : Credit) : (u.enqueue c).Balanced := by
  have hcounts : (u.enqueue c).counts = { u.counts with grants := satAdd u.counts.grants 1 } := by
    unfold LaneUnit.enqueue LaneUnit.follow
    split <;> rfl
  unfold LaneUnit.Balanced LaneCounts.saturated at *
  rw [hcounts, LaneUnit.enqueue_queue, List.length_append, List.length_singleton]
  simp only [satAdd]
  omega

/-- A start counts the queue as withdrawn (R183 step 3). -/
theorem LaneUnit.Balanced.restart {u : LaneUnit} (h : u.Balanced) : u.restart.Balanced := by
  unfold LaneUnit.Balanced LaneCounts.saturated at *
  simp only [LaneUnit.restart, LaneUnit.atStart, satAdd, List.length_nil]
  omega

/-! ### Lane updates that neither take nor end a credit -/

/-- Every credit is UNLOCKED or PASSING (R48). -/
def OnTheirWay (q : List Credit) : Prop := ∀ c ∈ q, c.notUnlocked = false

/-- A lane unit in another's place with as many credits, on their way if they were before, and with the same counts of
R121, configuration and next credit number. -/
structure LaneKeeps (u v : LaneUnit) : Prop where
  length : v.queue.length = u.queue.length
  onTheirWay : OnTheirWay u.queue → OnTheirWay v.queue
  ledger : v.counts.ledger = u.counts.ledger
  config : v.config = u.config
  nextCredit : v.nextCredit = u.nextCredit

/-- An update that leaves the queue alone. -/
theorem LaneKeeps.of_queue {u v : LaneUnit} (hq : v.queue = u.queue) (hc : v.counts.ledger = u.counts.ledger)
    (hg : v.config = u.config) (hn : v.nextCredit = u.nextCredit) : LaneKeeps u v :=
  ⟨by rw [hq], by rw [hq]; exact id, hc, hg, hn⟩

theorem LaneKeeps.refl (u : LaneUnit) : LaneKeeps u u := .of_queue rfl rfl rfl rfl

theorem LaneKeeps.trans {u v w : LaneUnit} (h : LaneKeeps u v) (k : LaneKeeps v w) : LaneKeeps u w :=
  ⟨k.length.trans h.length, k.onTheirWay ∘ h.onTheirWay, k.ledger.trans h.ledger, k.config.trans h.config,
    k.nextCredit.trans h.nextCredit⟩

theorem LaneKeeps.balanced {u v : LaneUnit} (h : LaneKeeps u v) (hu : u.Balanced) : v.Balanced :=
  hu.congr h.ledger h.length

theorem LaneKeeps.queue_nil_iff {u v : LaneUnit} (h : LaneKeeps u v) : v.queue = [] ↔ u.queue = [] := by
  rw [← List.length_eq_zero_iff, h.length, List.length_eq_zero_iff]

section Updates
variable {u v : LaneUnit} (now : Nat)

theorem LaneKeeps.follow (h : LaneKeeps u v) : LaneKeeps u v.follow := by
  refine h.trans ?_
  unfold LaneUnit.follow
  split <;> exact .of_queue rfl rfl rfl rfl

theorem LaneKeeps.offIfDrained (h : LaneKeeps u v) : LaneKeeps u v.offIfDrained := by
  refine h.trans ?_
  unfold LaneUnit.offIfDrained
  split <;> exact .of_queue rfl rfl rfl rfl

theorem LaneKeeps.watchBeam (h : LaneKeeps u v) : LaneKeeps u (v.watchBeam now) := by
  refine h.trans ?_
  unfold LaneUnit.watchBeam
  split <;> exact .of_queue rfl rfl rfl rfl

/-- A change of the head credit that takes it no step back. -/
theorem LaneKeeps.modHead (h : LaneKeeps u v) {f : Credit → Credit}
    (hf : ∀ c ∈ v.queue.head?, c.notUnlocked = false → (f c).notUnlocked = false) : LaneKeeps u (v.modHead f) := by
  refine h.trans ?_
  unfold LaneUnit.modHead
  split
  · exact LaneKeeps.refl v
  · rename_i c cs hq
    refine LaneKeeps.follow ⟨by simp [hq], fun hall => ?_, rfl, rfl, rfl⟩
    rw [hq] at hall hf
    obtain ⟨hc, hcs⟩ := List.forall_mem_cons.mp hall
    exact List.forall_mem_cons.mpr ⟨hf c rfl hc, hcs⟩

theorem laneKeeps_reclassify (before after : Beam) : LaneKeeps u (u.reclassify now before after) := by
  unfold LaneUnit.reclassify
  dsimp only
  split_ifs
  · exact LaneKeeps.watchBeam now (.of_queue rfl rfl rfl rfl)
  · exact .of_queue rfl rfl rfl rfl
  · exact .of_queue rfl rfl rfl rfl

theorem laneKeeps_startUnlock : LaneKeeps u (u.startUnlock now) := by
  have hhead := (LaneKeeps.refl u).modHead (f := fun c =>
    { c with state := .unlocked, unlockStart := some now, unlockEnd := some (now + u.config.unlockWidth) })
    fun _ _ _ => rfl
  exact ⟨hhead.length, hhead.onTheirWay, hhead.ledger, hhead.config, hhead.nextCredit⟩

theorem LaneUnit.headHolding_iff : u.headHolding = true ↔ ∃ c cs, u.queue = c :: cs ∧ c.state = .holding := by
  unfold LaneUnit.headHolding
  split <;> simp_all

/-- A release of a HOLDING head (R136, R137). -/
theorem laneKeeps_release (h : u.headHolding = true) (slot : Option Nat) (earliest : Nat) :
    LaneKeeps u (u.modHead (Credit.release now slot earliest)) := by
  obtain ⟨c, cs, hq, hc⟩ := LaneUnit.headHolding_iff.mp h
  refine (LaneKeeps.refl u).modHead fun d hd hw => ?_
  obtain rfl : c = d := by simpa [hq] using hd
  simp [Credit.notUnlocked, hc] at hw

theorem laneKeeps_leave : LaneKeeps u (u.leave now) := by
  unfold LaneUnit.leave
  dsimp only
  split_ifs
  · refine LaneKeeps.modHead ?_ fun _ _ _ => rfl
    exact .of_queue rfl rfl rfl rfl
  · exact .of_queue rfl rfl rfl rfl
  · exact LaneKeeps.refl u

/-- A lift stop takes back RELEASED credits alone (R128). -/
theorem laneKeeps_liftStop : LaneKeeps u (u.liftStop now) := by
  refine LaneKeeps.follow ⟨List.length_map _, fun hall => List.forall_mem_map.mpr fun c hc => ?_, rfl, rfl, rfl⟩
  have hway := hall c hc
  unfold Credit.toHolding
  split
  · rename_i hs
    simp [Credit.notUnlocked, hs] at hway
  · exact hway

end Updates

end Sys2Proof.Machine

/-! ## What operations keep of the laws of day, balance, pacer and ranges -/

namespace Sys2Proof.Machine

/-- Each of these laws that the first state has, the second has too. -/
structure Keeps (s t : State) : Prop where
  days : DayLaw s ∧ BalanceLaw s → DayLaw t ∧ BalanceLaw t
  pacer : PacerLaw s.pacer → PacerLaw t.pacer
  ranges : RangeLaw s → RangeLaw t

theorem Keeps.refl (s : State) : Keeps s s := ⟨id, id, id⟩

theorem Keeps.trans {s t r : State} (h : Keeps s t) (k : Keeps t r) : Keeps s r :=
  ⟨k.days ∘ h.days, k.pacer ∘ h.pacer, k.ranges ∘ h.ranges⟩

/-! ### Queues and credits -/

theorem State.credits_eq_nil {s : State} : s.credits = [] ↔ ∀ i, (s.lane i).queue = [] := by
  simp only [List.eq_nil_iff_forall_not_mem, State.mem_credits, not_exists]
  exact forall_comm

theorem State.onTheirWay_iff {s : State} : OnTheirWay s.credits ↔ ∀ i, OnTheirWay (s.lane i).queue := by
  simp only [OnTheirWay, State.mem_credits, forall_exists_index]
  exact forall_comm

/-- Lanes that keep their credits keep the day laws, while the day state stays. -/
theorem DayLaw.congr {s t : State} (h : DayLaw s) (hday : t.day = s.day)
    (hl : ∀ i, LaneKeeps (s.lane i) (t.lane i)) : DayLaw t where
  closed := fun hc => State.credits_eq_nil.mpr fun i =>
    (hl i).queue_nil_iff.mpr (State.credits_eq_nil.mp (h.closed (hday ▸ hc)) i)
  closing := fun hc => by
    obtain ⟨hne, hway⟩ := h.closing (hday ▸ hc)
    refine ⟨fun he => hne (State.credits_eq_nil.mpr fun i => ?_), ?_⟩
    · exact (hl i).queue_nil_iff.mp (State.credits_eq_nil.mp he i)
    · exact State.onTheirWay_iff.mpr fun i => (hl i).onTheirWay (State.onTheirWay_iff.mp hway i)

/-! ### Changes outside day and settings -/

/-- Two states with the same day state and the same stored settings outside lanes and pacer. -/
structure SameSettings (s t : State) : Prop where
  day : t.day = s.day
  lastOpened : t.lastOpened = s.lastOpened
  tariffs : t.tariffs = s.tariffs
  offset : t.offset = s.offset
  levels : t.levels = s.levels
  masks : ∀ l, (t.link l).mask = (s.link l).mask

theorem SameSettings.keeps {s t : State} (h : SameSettings s t) (hl : ∀ i, LaneKeeps (s.lane i) (t.lane i))
    (hp : PacerLaw s.pacer → PacerLaw t.pacer) : Keeps s t where
  days := fun ⟨hday, hbalance⟩ => ⟨hday.congr h.day hl, fun i => (hl i).balanced (hbalance i)⟩
  pacer := hp
  ranges := fun hr =>
    { tariffs := by rw [h.tariffs]; exact hr.tariffs
      offset := by rw [h.offset]; exact hr.offset
      lastOpened := by rw [h.lastOpened]; exact hr.lastOpened
      configs := fun i => by rw [(hl i).config]; exact hr.configs i
      nextCredits := fun i => by rw [(hl i).nextCredit]; exact hr.nextCredits i
      levels := by rw [h.levels]; exact hr.levels
      masks := fun l => by rw [h.masks]; exact hr.masks l }

/-- A change of nothing the laws read. -/
theorem SameSettings.keeps_of_eq {s t : State} (h : SameSettings s t) (hl : t.lanes = s.lanes)
    (hp : t.pacer = s.pacer) : Keeps s t :=
  h.keeps (fun i => by rw [State.lane, State.lane, hl]; exact LaneKeeps.refl _) (by rw [hp]; exact id)

section Operations
variable {s t : State}

theorem Keeps.withLanes (h : Keeps s t) {ls : Six LaneUnit} (hl : ∀ i, LaneKeeps (t.lane i) (ls.get i)) :
    Keeps s { t with lanes := ls } :=
  h.trans <| SameSettings.keeps ⟨rfl, rfl, rfl, rfl, rfl, fun _ => rfl⟩ hl id

/-- A change of one lane, from what it is. -/
theorem Keeps.modLaneAt (h : Keeps s t) {i : LaneNo} {f : LaneUnit → LaneUnit}
    (hf : LaneKeeps (t.lane i) (f (t.lane i))) : Keeps s (t.modLane i f) :=
  h.withLanes fun j => by
    rw [Six.get_set]
    split
    · subst_vars; exact hf
    · exact LaneKeeps.refl _

theorem Keeps.modLane (h : Keeps s t) (i : LaneNo) {f : LaneUnit → LaneUnit} (hf : ∀ u, LaneKeeps u (f u)) :
    Keeps s (t.modLane i f) := h.modLaneAt (hf _)

/-- A change of one lane that none of the laws reads. -/
theorem Keeps.quietLane (h : Keeps s t) (i : LaneNo) {f : LaneUnit → LaneUnit} (hq : ∀ u, (f u).queue = u.queue)
    (hc : ∀ u, (f u).counts.ledger = u.counts.ledger) (hg : ∀ u, (f u).config = u.config)
    (hn : ∀ u, (f u).nextCredit = u.nextCredit) : Keeps s (t.modLane i f) :=
  h.modLane i fun u => .of_queue (hq u) (hc u) (hg u) (hn u)

theorem Keeps.withPacer (h : Keeps s t) {p : Pacer} (hp : PacerLaw t.pacer → PacerLaw p) :
    Keeps s { t with pacer := p } :=
  h.trans <| SameSettings.keeps ⟨rfl, rfl, rfl, rfl, rfl, fun _ => rfl⟩ (fun _ => LaneKeeps.refl _) hp

theorem Keeps.waitUntil (h : Keeps s t) (n : Nat) : Keeps s (t.waitUntil n) :=
  h.trans <| SameSettings.keeps_of_eq ⟨rfl, rfl, rfl, rfl, rfl, fun _ => rfl⟩ rfl rfl

theorem Keeps.modPass (h : Keeps s t) (n : Nat) (f : Pass → Pass) : Keeps s (t.modPass n f) :=
  h.trans <| SameSettings.keeps_of_eq ⟨rfl, rfl, rfl, rfl, rfl, fun _ => rfl⟩ rfl rfl

theorem Keeps.append (h : Keeps s t) (b : JournalBody) : Keeps s (t.append b) :=
  h.trans <| SameSettings.keeps_of_eq ⟨rfl, rfl, rfl, rfl, rfl, fun _ => rfl⟩ rfl rfl

/-- A change of one endpoint but for its mask. -/
theorem Keeps.modLink (h : Keeps s t) (l : LinkNo) {f : Endpoint → Endpoint} (hf : ∀ e, (f e).mask = e.mask) :
    Keeps s (t.modLink l f) := by
  refine h.trans <| SameSettings.keeps_of_eq ⟨rfl, rfl, rfl, rfl, rfl, fun k => ?_⟩ rfl rfl
  rw [State.modLink_link]
  split
  · subst_vars; exact hf _
  · rfl

theorem State.raise_mask (s : State) (p : EventPair) (l : LinkNo) : ((s.raise p).link l).mask = (s.link l).mask := by
  rw [State.raise_link]
  split <;> rfl

theorem Keeps.raise (h : Keeps s t) (p : EventPair) : Keeps s (t.raise p) := by
  refine h.trans <| SameSettings.keeps_of_eq ⟨?_, ?_, ?_, ?_, ?_, t.raise_mask p⟩ ?_ ?_ <;> simp

theorem Keeps.raiseAt (h : Keeps s t) (k : LaneEvent) (i : LaneNo) : Keeps s (t.raiseAt k i) := h.raise _

theorem Keeps.idleReceiver (h : Keeps s t) (l : LinkNo) : Keeps s (t.idleReceiver l) := h.modLink l fun _ => rfl

theorem Keeps.withOffice (h : Keeps s t) (o : OfficePort) (n : Nat) :
    Keeps s { t with office := o, freeCount := n } :=
  h.trans <| SameSettings.keeps_of_eq ⟨rfl, rfl, rfl, rfl, rfl, fun _ => rfl⟩ rfl rfl

theorem Keeps.reply (h : Keeps s t) (l : LinkNo) (code tag : Nat) (a : Answer) : Keeps s (t.reply l code tag a) := by
  rw [State.reply_eq]
  exact (h.modLink l (f := Endpoint.pushAnswer code tag a) fun _ => rfl).withOffice _ _

theorem Keeps.taken (h : Keeps s t) (l : LinkNo) : Keeps s (t.taken l) := by
  unfold State.taken State.reviveLink
  split
  · exact (h.idleReceiver l).quietLane _ (fun _ => rfl) (fun _ => rfl) (fun _ => rfl) fun _ => rfl
  · exact h.idleReceiver l

theorem Keeps.answered (h : Keeps s t) (l : LinkNo) (code tag : Nat) (a : Answer) : Keeps s (t.answered l code tag a) :=
  (h.taken l).reply l code tag a

/-! ### Unlock starts and releases -/

theorem Keeps.tryUnlock (h : Keeps s t) (i : LaneNo) : Keeps s (t.tryUnlock i) := by
  unfold State.tryUnlock
  split
  · exact h.modLane i fun _ => laneKeeps_startUnlock _
  · exact h

theorem Keeps.freeRelease (h : Keeps s t) (i : LaneNo) : Keeps s (t.freeRelease i) := by
  unfold State.freeRelease
  split
  · rename_i hrelease
    exact (h.modLaneAt (laneKeeps_release _ hrelease.1 _ _)).tryUnlock i
  · exact h

theorem Keeps.freeReleaseAll (h : Keeps s t) : Keeps s t.freeReleaseAll := by
  have key : ∀ (is : List LaneNo) (r : State), Keeps s r → Keeps s (is.foldl State.freeRelease r) := by
    intro is
    induction is with
    | nil => exact fun _ hr => hr
    | cons i is ih => exact fun r hr => ih _ (hr.freeRelease i)
  exact key _ t h

/-- A lane the arbitration chooses has a HOLDING head (R135). -/
theorem State.nextLane_holding {i : LaneNo} (h : t.nextLane = some i) : (t.lane i).headHolding = true := by
  have choice : ∀ a b : Option (Nat × LaneNo), earlier a b = a ∨ earlier a b = b := by
    intro a b
    unfold earlier
    split
    · split
      · exact .inr rfl
      · exact .inl rfl
    · exact .inr rfl
    · exact .inl rfl
  have key : ∀ (xs : List (Option (Nat × LaneNo))) (a : Option (Nat × LaneNo)),
      xs.foldl earlier a = a ∨ xs.foldl earlier a ∈ xs := by
    intro xs
    induction xs with
    | nil => exact fun _ => .inl rfl
    | cons x xs ih =>
      intro a
      rw [List.foldl_cons]
      rcases ih (earlier a x) with e | hm
      · rw [e]
        refine (choice a x).imp id fun hx => ?_
        rw [hx]
        exact List.mem_cons_self
      · exact .inr (List.mem_cons_of_mem x hm)
  obtain ⟨⟨since, j⟩, hchosen, rfl⟩ := Option.map_eq_some_iff.mp h
  rcases key (allLanes.map fun j => (t.lane j).waitingSince.map fun n => (n, j)) none with e | hm
  · rw [hchosen] at e
    cases e
  · rw [hchosen] at hm
    obtain ⟨k, -, hk⟩ := List.mem_map.mp hm
    obtain ⟨n, hn, e⟩ := Option.map_eq_some_iff.mp hk
    obtain rfl : k = j := congrArg Prod.snd e
    unfold LaneUnit.waitingSince at hn
    unfold LaneUnit.headHolding
    split at hn
    · split at hn
      · simp_all
      · cases hn
    · cases hn

/-- A slot that takes releases holds one seat more (R135, R136). -/
theorem PacerLaw.releaseSeat {k : Slot} (h : PacerLaw t.pacer) (hk : t.openSlot = some k) (c : LiftCounts) :
    PacerLaw { t.pacer with slot := some { k with released := k.released + 1 }, counts := c } := by
  unfold State.openSlot at hk
  split at hk
  · cases hk
  · rename_i m hslot
    split at hk
    · rename_i hopen
      obtain ⟨hmode, -, -, -, hroom⟩ := hopen
      obtain rfl := Option.some.inj hk
      have hcapacity := (h.seats m hslot).2
      refine { h with free := fun hfree => ?_, seats := fun x hx => ?_ }
      · exact absurd (hmode.symm.trans hfree) (by decide)
      · obtain rfl := Option.some.inj hx
        exact ⟨hroom, hcapacity⟩
    · cases hk

theorem Keeps.releaseInto (h : Keeps s t) {k : Slot} {i : LaneNo} (hk : t.openSlot = some k)
    (hi : t.nextLane = some i) : Keeps s (t.releaseInto k i) := by
  have hlane : Keeps s (t.modLane i fun u =>
      u.modHead (Credit.release t.clock (some k.number) (max t.clock k.earliestUnlock))) :=
    h.modLaneAt (laneKeeps_release _ (State.nextLane_holding hi) _ _)
  exact (hlane.withPacer fun hp => hp.releaseSeat (t := t) hk _).tryUnlock i

theorem Keeps.arbitrate (h : Keeps s t) : Keeps s t.arbitrate := by
  have key : ∀ (n : Nat) (r : State), Keeps s r → Keeps s (arbitrateUpTo n r) := by
    intro n
    induction n with
    | zero => exact fun _ hr => hr
    | succ n ih =>
      intro r hr
      unfold arbitrateUpTo
      split
      · exact ih _ (hr.releaseInto ‹_› ‹_›)
      · exact hr
  exact key _ t h

theorem Keeps.offer (h : Keeps s t) (i : LaneNo) : Keeps s (t.offer i) := by
  unfold State.offer
  split
  · split
    · exact h.arbitrate
    · exact h.freeRelease i
  · exact h

theorem Keeps.homeRelease (h : Keeps s t) (i : LaneNo) : Keeps s (t.homeRelease i) := by
  have hunlock := h.tryUnlock i
  unfold State.homeRelease
  dsimp only
  split
  · exact hunlock.freeRelease i
  · exact hunlock

end Operations

end Sys2Proof.Machine

/-! ## What the end of a credit, faults, edges and starts keep of these laws -/

namespace Sys2Proof.Machine

/-! ### The end of a credit -/

theorem LaneUnit.ended_config (u : LaneUnit) (place : Nat) (c : Credit) (o : CreditOutcome) :
    (u.ended place c o).config = u.config := by
  unfold LaneUnit.ended LaneUnit.offIfDrained LaneUnit.follow LaneUnit.toOff
  split_ifs <;> rfl

theorem LaneUnit.ended_nextCredit (u : LaneUnit) (place : Nat) (c : Credit) (o : CreditOutcome) :
    (u.ended place c o).nextCredit = u.nextCredit := by
  unfold LaneUnit.ended LaneUnit.offIfDrained LaneUnit.follow LaneUnit.toOff
  split_ifs <;> rfl

theorem State.closeIfDrained_day (s : State) :
    s.closeIfDrained.day = if s.day = .closing ∧ s.credits = [] then .closed else s.day := by
  unfold State.closeIfDrained State.closeNow
  simp only [State.allEmpty_iff]
  split <;> simp

theorem State.closeIfDrained_mask (s : State) (l : LinkNo) : (s.closeIfDrained.link l).mask = (s.link l).mask := by
  unfold State.closeIfDrained State.closeNow
  split
  · exact State.raise_mask _ _ l
  · rfl

theorem State.closeIfDrained_credits (s : State) : s.closeIfDrained.credits = s.credits :=
  State.credits_congr fun i => by rw [State.closeIfDrained_lane]

section EndCredit
variable {s t : State} {i : LaneNo} {place : Nat} {c : Credit} {o : CreditOutcome}

/-- The close of the day comes last (R103), and nothing before it changes the day state or a mask. -/
theorem State.endCredit_close (h : (s.lane i).queue[place]? = some c) :
    ∃ r : State, s.endCredit i place o = r.closeIfDrained ∧ r.day = s.day ∧
      ∀ l, (r.link l).mask = (s.link l).mask := by
  have hday : ∀ r : State, (r.settleLink c o).day = r.day := fun r => by rw [State.settleLink_eq]
  have hlink : ∀ (r : State) (l : LinkNo), (r.settleLink c o).link l = r.link l := fun r l => by
    rw [State.settleLink_eq]; rfl
  have hpass : ∀ r : State, (r.writePassage i c).day = r.day := fun _ => rfl
  have hpassLink : ∀ (r : State) (l : LinkNo), (r.writePassage i c).link l = r.link l := fun _ _ => rfl
  unfold State.endCredit
  rw [h]
  refine ⟨_, rfl, ?_, fun l => ?_⟩
  · split_ifs <;> simp [State.raiseAt, hday, hpass]
  · split_ifs <;> simp [State.raiseAt, State.raise_mask, hlink, hpassLink]

theorem State.endCredit_day (h : (s.lane i).queue[place]? = some c) :
    (s.endCredit i place o).day =
      if s.day = .closing ∧ (s.endCredit i place o).credits = [] then .closed else s.day := by
  obtain ⟨r, e, hday, -⟩ := State.endCredit_close (o := o) h
  rw [e, State.closeIfDrained_day, State.closeIfDrained_credits, hday]

theorem State.endCredit_mask (h : (s.lane i).queue[place]? = some c) (l : LinkNo) :
    ((s.endCredit i place o).link l).mask = (s.link l).mask := by
  obtain ⟨r, e, -, hmask⟩ := State.endCredit_close (o := o) h
  rw [e, State.closeIfDrained_mask, hmask]

/-- No credit comes with the end of another. -/
theorem State.mem_endCredit_credits (h : (s.lane i).queue[place]? = some c) {d : Credit}
    (hd : d ∈ (s.endCredit i place o).credits) : d ∈ s.credits := by
  obtain ⟨j, hj⟩ := State.mem_credits.mp hd
  rw [State.endCredit_lane h] at hj
  split at hj
  · rw [LaneUnit.ended_queue] at hj
    exact State.mem_credits.mpr ⟨i, List.mem_of_mem_eraseIdx hj⟩
  · exact State.mem_credits.mpr ⟨j, hj⟩

theorem DayLaw.endCredit (hlaw : DayLaw s) (h : (s.lane i).queue[place]? = some c) :
    DayLaw (s.endCredit i place o) := by
  have hmem : c ∈ s.credits := State.mem_credits.mpr ⟨i, List.mem_of_getElem? h⟩
  have hday := State.endCredit_day (o := o) h
  constructor
  · intro hclosed
    rw [hday] at hclosed
    split at hclosed
    · rename_i hdrained
      exact hdrained.2
    · exact absurd hmem (by simp [hlaw.closed hclosed])
  · intro hclosing
    rw [hday] at hclosing
    split at hclosing
    · cases hclosing
    · rename_i hleft
      exact ⟨fun he => hleft ⟨hclosing, he⟩,
        fun d hd => (hlaw.closing hclosing).2 d (State.mem_endCredit_credits h hd)⟩

theorem BalanceLaw.endCredit (hlaw : BalanceLaw s) (h : (s.lane i).queue[place]? = some c) :
    BalanceLaw (s.endCredit i place o) := fun j => by
  rw [State.endCredit_lane h]
  split
  · exact LaneUnit.Balanced.ended (hlaw i) (List.getElem?_eq_some_iff.mp h).1 c o
  · exact hlaw j

theorem RangeLaw.endCredit (hlaw : RangeLaw s) (h : (s.lane i).queue[place]? = some c) :
    RangeLaw (s.endCredit i place o) := by
  have hends := Ends.endCredit s i place o
  refine
    { tariffs := by rw [hends.tariffs]; exact hlaw.tariffs
      offset := by rw [hends.offset]; exact hlaw.offset
      lastOpened := by rw [hends.lastOpened]; exact hlaw.lastOpened
      levels := by rw [hends.levels]; exact hlaw.levels
      masks := fun l => by rw [State.endCredit_mask h]; exact hlaw.masks l
      configs := fun j => ?_
      nextCredits := fun j => ?_ }
  · rw [State.endCredit_lane h]
    split
    · rw [LaneUnit.ended_config]; exact hlaw.configs i
    · exact hlaw.configs j
  · rw [State.endCredit_lane h]
    split
    · rw [LaneUnit.ended_nextCredit]; exact hlaw.nextCredits i
    · exact hlaw.nextCredits j

theorem Keeps.endCredit (h : Keeps s t) (i : LaneNo) (place : Nat) (o : CreditOutcome) :
    Keeps s (t.endCredit i place o) := by
  cases hc : (t.lane i).queue[place]? with
  | none => rw [State.endCredit_none hc]; exact h
  | some c =>
    refine h.trans ⟨fun ⟨hday, hbalance⟩ => ⟨hday.endCredit hc, hbalance.endCredit hc⟩, fun hp => ?_,
      fun hr => hr.endCredit hc⟩
    rw [(Ends.endCredit t i place o).pacer]
    exact hp

theorem Keeps.endHead (h : Keeps s t) (i : LaneNo) (o : CreditOutcome) : Keeps s (t.endHead i o) :=
  (h.endCredit i 0 o).offer i

/-! ### Withdrawals and faults -/

theorem Keeps.withdraw (h : Keeps s t) (i : LaneNo) (cause : Cause) (which : Credit → Bool) :
    Keeps s (t.withdraw i cause which) := by
  have key : ∀ (q : List Credit) (place : Nat) (r : State),
      Keeps s r → Keeps s (withdrawFrom i cause which q place r) := by
    intro q
    induction q with
    | nil => exact fun _ _ hr => hr
    | cons c cs ih =>
      intro place r hr
      unfold withdrawFrom
      split
      · exact ih _ _ (hr.endCredit i place _)
      · exact ih _ _ hr
  exact key _ 0 t h

theorem Keeps.withdrawAll (h : Keeps s t) : Keeps s t.withdrawAll := by
  have key : ∀ (is : List LaneNo) (r : State), Keeps s r →
      Keeps s (is.foldl (fun r i => r.withdraw i .dayClosing Credit.notUnlocked) r) := by
    intro is
    induction is with
    | nil => exact fun _ hr => hr
    | cons i is ih => exact fun r hr => ih _ (hr.withdraw i _ _)
  exact key _ t h

theorem Keeps.closeInService (h : Keeps s t) (i : LaneNo) : Keeps s (t.closeInService i) := by
  unfold State.closeInService
  refine (h.withdraw i _ _).modLane i fun u => ?_
  have hgate : LaneKeeps u { u with gate := .closing } := .of_queue rfl rfl rfl rfl
  split
  · exact hgate
  · exact hgate.offIfDrained

theorem Keeps.enterFault (h : Keeps s t) (i : LaneNo) (cause : FaultCause) : Keeps s (t.enterFault i cause) := by
  have hgate : Keeps s (t.modLane i fun u => { u with gate := .fault }) :=
    h.quietLane i (fun _ => rfl) (fun _ => rfl) (fun _ => rfl) fun _ => rfl
  unfold State.enterFault
  refine Keeps.raiseAt (Keeps.append (Keeps.quietLane (hgate.withdraw i _ _) i ?_ ?_ ?_ ?_) _) _ _ <;>
    exact fun _ => rfl

theorem Keeps.laterCause (h : Keeps s t) (i : LaneNo) (cause : FaultCause) : Keeps s (t.laterCause i cause) := by
  unfold State.laterCause
  split
  · exact h
  · refine Keeps.raiseAt (Keeps.append (Keeps.quietLane h i ?_ ?_ ?_ ?_) _) _ _ <;> exact fun _ => rfl

theorem Keeps.detect (h : Keeps s t) (i : LaneNo) (cause : FaultCause) : Keeps s (t.detect i cause) := by
  unfold State.detect
  split
  · exact h.laterCause i cause
  · exact h.enterFault i cause

/-! ### The return of the rotor -/

theorem Keeps.countUntagged (h : Keeps s t) (i : LaneNo) (cause : UntaggedCause) :
    Keeps s (t.countUntagged i cause) := by
  unfold State.countUntagged
  refine Keeps.raiseAt (Keeps.append (Keeps.modLane h i fun u => ?_) _) _ _
  cases cause <;> exact .of_queue rfl rfl rfl rfl

theorem Keeps.countBackout (h : Keeps s t) (i : LaneNo) (r : Rotation) : Keeps s (t.countBackout i r) := by
  unfold State.countBackout
  refine Keeps.raiseAt (Keeps.append (Keeps.quietLane h i ?_ ?_ ?_ ?_) _) _ _ <;> exact fun _ => rfl

theorem Keeps.countRotation (h : Keeps s t) (i : LaneNo) (left : Tracker) (r : Rotation) :
    Keeps s (t.countRotation i left r) := by
  unfold State.countRotation
  dsimp only
  split_ifs
  · exact h.countBackout i r
  · exact h.countUntagged i _
  · exact (h.countUntagged i _).countUntagged i _
  · exact h
  · exact h.countUntagged i _

theorem Keeps.backoutCredit (h : Keeps s t) (i : LaneNo) (r : Rotation) : Keeps s (t.backoutCredit i r) := by
  unfold State.backoutCredit
  split_ifs
  · exact h.endHead i _
  · exact h.endHead i _
  · exact h.endHead i _
  · exact h.modLane i fun u => (LaneKeeps.refl u).modHead fun _ _ _ => rfl

theorem Keeps.returnHome (h : Keeps s t) (i : LaneNo) (r : Rotation) : Keeps s (t.returnHome i r) := by
  have hhome : Keeps s (t.modLane i LaneUnit.atHome) :=
    h.quietLane i (fun _ => rfl) (fun _ => rfl) (fun _ => rfl) fun _ => rfl
  have hcount := hhome.countRotation i (t.lane i).tracker r
  unfold State.returnHome
  refine Keeps.modLane (Keeps.homeRelease (Keeps.modLane ?_ i fun u => (LaneKeeps.refl u).offIfDrained) i) i
    fun u => (LaneKeeps.refl u).watchBeam _
  split
  · exact hcount.backoutCredit i r
  · exact hcount

end EndCredit

/-! ### The pacer (R124 to R134) -/

section Pacer
variable {p : Pacer}

theorem clamp_mem {lo hi v : Nat} (h : lo ≤ hi) : lo ≤ clamp lo hi v ∧ clamp lo hi v ≤ hi := by
  unfold clamp
  split_ifs <;> omega

theorem clamp_of_mem {lo hi v : Nat} (h : lo ≤ v ∧ v ≤ hi) : clamp lo hi v = v := by
  unfold clamp
  rw [if_neg (Nat.not_lt_of_le h.1), if_neg (Nat.not_lt_of_le h.2)]

theorem clamp_clamp {lo hi v : Nat} (h : lo ≤ hi) : clamp lo hi (clamp lo hi v) = clamp lo hi v :=
  clamp_of_mem (clamp_mem h)

/-- Stored pacing settings are in range (R125). -/
theorem clampPacing_clampPacing (x : PacingSettings) : clampPacing (clampPacing x) = clampPacing x := by
  have hlo := clamp_mem (lo := 2000) (hi := 60000) (v := x.intervalMin) (by decide)
  have hmax : clamp 2000 60000 x.intervalMin + 1 ≤ 120000 := by omega
  have hhi := clamp_mem (v := x.intervalMax) hmax
  simp only [clampPacing, clamp_clamp (show 2000 ≤ 60000 by decide), clamp_clamp hmax,
    clamp_clamp (show 10 ≤ 100 by decide), clamp_clamp (show 0 ≤ 60000 by decide)]
  rw [clamp_clamp (by omega)]

/-- Stored lane settings are in range (R77). -/
theorem clampConfig_clampConfig (c : LaneConfig) : clampConfig (clampConfig c) = clampConfig c := by
  have hbroken := clamp_mem (lo := 0) (hi := 4095) (v := c.brokenLevel) (by decide)
  have hmid : clamp 0 4095 c.brokenLevel + 1 ≤ 4096 := by omega
  have hclear := clamp_mem (v := c.clearLevel) hmid
  simp only [clampConfig, clamp_clamp (show 10 ≤ 2000 by decide), clamp_clamp (show 1000 ≤ 10000 by decide),
    clamp_clamp (show 5 ≤ 120 by decide), clamp_clamp (show 1 ≤ 30 by decide), clamp_clamp (show 2 ≤ 60 by decide),
    clamp_clamp (show 0 ≤ 4095 by decide), clamp_clamp hmid, clamp_clamp (show 1 ≤ 60 by decide)]
  rw [clamp_clamp (by omega)]

theorem Tracking.eq_tracking {x : Tracking} (h : x ≠ .lost) : x = .tracking := by
  cases x
  · rfl
  · exact absurd rfl h

/-- A stopped watch, outside PACED mode with the lift RUNNING. -/
theorem PacerLaw.watch_off (h : PacerLaw p) (hoff : ¬ (p.mode = .paced ∧ p.lift = .running ∧ p.tracking = .tracking)) :
    p.watchRunning = false := Bool.eq_false_iff.mpr (mt h.watch.mp hoff)

/-- R128: the lift STOPPED, the watch with it. -/
theorem PacerLaw.stop (h : PacerLaw p) : PacerLaw { p with lift := .stopped, watchRunning := false } :=
  { h with watch := by simp }

/-- R127 in FREE mode. -/
theorem PacerLaw.runFree (h : PacerLaw p) (hm : p.mode = .free) : PacerLaw { p with lift := .running } :=
  { h with watch := by simp [h.watch_off (by simp [hm]), hm] }

/-- R127 in PACED mode: the watch starts with tracking. -/
theorem PacerLaw.runPaced (h : PacerLaw p) (hm : p.mode = .paced) (hl : p.lift = .stopped) (now : Nat) :
    PacerLaw (if p.tracking = .tracking then Pacer.startWatch now { p with lift := .running }
      else { p with lift := .running }) := by
  split
  · rename_i ht
    exact { h with watch := by simp [Pacer.startWatch, hm, ht] }
  · rename_i ht
    exact { h with watch := by simp [h.watch_off (by simp [hl]), ht] }

/-- R133. -/
theorem PacerLaw.setSeats (h : PacerLaw p) (seats : Nat) :
    PacerLaw { p with
      pendingSeats := clamp 1 8 seats
      activeSeats := if p.mode = .free then clamp 1 8 seats else p.activeSeats } :=
  have hseats := clamp_mem (lo := 1) (hi := 8) (v := seats) (by decide)
  { h with
    pending := hseats
    active := by
      dsimp only
      split
      · exact hseats
      · exact h.active }

/-- R126: the history is empty, so that it has no interval of the old limits. -/
theorem PacerLaw.setMode (h : PacerLaw p) (now : Nat) (mode : PacingMode) (x : PacingSettings) :
    PacerLaw (p.setMode now mode (clampPacing x)) := by
  have hsettings := clampPacing_clampPacing x
  have hnone : ∀ g ∈ ([] : List Nat), (clampPacing x).intervalMin ≤ g ∧ g ≤ (clampPacing x).intervalMax :=
    fun _ hg => absurd hg List.not_mem_nil
  unfold Pacer.setMode
  split
  · rename_i hm
    exact { h with
      settings := hsettings, history := Nat.zero_le _, intervals := hnone
      free := fun e => nomatch e
      watch := by simpa [hm] using h.watch }
  · rename_i hm
    have hoff := h.watch_off (by simp [hm])
    dsimp only
    split
    · rename_i hl
      exact { h with
        settings := hsettings, history := Nat.zero_le _, intervals := hnone
        free := fun e => nomatch e
        seats := fun k hk => nomatch hk
        watch := by simp [Pacer.startWatch, hl] }
    · rename_i hl
      exact { h with
        settings := hsettings, history := Nat.zero_le _, intervals := hnone
        free := fun e => nomatch e
        seats := fun k hk => nomatch hk
        watch := by simp [hoff, hl] }
  · exact { h with
      settings := hsettings, history := Nat.zero_le _, intervals := hnone
      active := h.pending
      free := fun _ => rfl
      seats := fun k hk => nomatch hk
      watch := by simp }
  · rename_i hm
    exact { h with
      settings := hsettings, history := Nat.zero_le _, intervals := hnone
      free := fun _ => h.free hm
      watch := by simpa [hm] using h.watch }

/-- R131. -/
theorem PacerLaw.lose (h : PacerLaw p) (c : LiftCounts) :
    PacerLaw { p with tracking := .lost, watchRunning := false, counts := c } :=
  { h with watch := by simp }

theorem length_historyPush (hist : List Nat) (g : Nat) (h : hist.length ≤ Config.historySize) :
    (historyPush hist g).length ≤ Config.historySize := by
  have hsize : Config.historySize = 4 := rfl
  unfold historyPush
  split <;> simp <;> omega

theorem mem_historyPush {hist : List Nat} {g x : Nat} (h : x ∈ historyPush hist g) : x ∈ hist ∨ x = g := by
  unfold historyPush at h
  rcases List.mem_append.mp h with h | h
  · split at h
    · exact .inl h
    · exact .inl (List.mem_of_mem_tail h)
  · exact .inr (by simpa using h)

/-- The interval an edge is classified with is within the limits (R129). -/
theorem Pacer.classifyEdge_inPace {now g : Nat} (h : p.classifyEdge now = .inPace g) :
    p.settings.intervalMin ≤ g ∧ g ≤ p.settings.intervalMax := by
  unfold Pacer.classifyEdge at h
  split at h
  · cases h
  · cases h
  · split_ifs at h with hmin hmax
    obtain rfl := EdgeClass.inPace.inj h
    exact ⟨Nat.le_of_not_lt hmin, hmax⟩

/-- Tracking regained, with the watch as step 6 of R129 leaves it. -/
theorem PacerLaw.regain (h : PacerLaw p) (hm : p.mode = .paced) (now : Nat) :
    PacerLaw (Pacer.edgeWatch now { p with tracking := .tracking }) := by
  unfold Pacer.edgeWatch
  split
  · rename_i hl
    exact { h with watch := by simpa [Pacer.startWatch, hm] using hl }
  · rename_i hl
    have hoff := h.watch_off fun hon => hl hon.2.1
    exact { h with watch := by simpa [hoff] using fun _ => hl }

/-- Steps 2 to 4 of R129. -/
theorem PacerLaw.acceptEdge (h : PacerLaw p) (now : Nat) {k : EdgeClass}
    (hk : ∀ g, k = .inPace g → p.settings.intervalMin ≤ g ∧ g ≤ p.settings.intervalMax) :
    PacerLaw (p.acceptEdge now k) :=
  { h with
    active := h.pending
    history := by
      cases k with
      | inPace g => exact length_historyPush _ _ h.history
      | newCarrier => exact h.history
      | bounce => exact h.history
    intervals := fun g hg => by
      cases k with
      | inPace x =>
        rcases mem_historyPush hg with hold | rfl
        · exact h.intervals g hold
        · exact hk g rfl
      | newCarrier => exact h.intervals g hg
      | bounce => exact h.intervals g hg }

/-- Step 5 of R129, in PACED mode. -/
theorem PacerLaw.openSlotNow (h : PacerLaw p) (hm : p.mode = .paced) (now : Nat) : PacerLaw (p.openSlotNow now) :=
  { h with
    free := fun e => absurd (hm.symm.trans e) (by decide)
    seats := fun k hk => by
      obtain rfl := Option.some.inj hk
      exact ⟨Nat.zero_le _, h.active.2⟩ }

/-- Step 6 of R129 may come before steps 2 to 5: it reads and writes other fields. -/
theorem Pacer.edgeWatch_openSlotNow (p : Pacer) (now : Nat) (k : EdgeClass) :
    ((p.acceptEdge now k).openSlotNow now).edgeWatch now = ((p.edgeWatch now).acceptEdge now k).openSlotNow now := by
  have hlift : ((p.acceptEdge now k).openSlotNow now).lift = p.lift := rfl
  unfold Pacer.edgeWatch
  rw [hlift]
  split <;> rfl

/-- The steps of R129 on the pacer of a PACED part. -/
theorem PacerLaw.edge (h : PacerLaw p) (hm : p.mode = .paced) (now : Nat) {k : EdgeClass}
    (hk : ∀ g, k = .inPace g → p.settings.intervalMin ≤ g ∧ g ≤ p.settings.intervalMax) :
    PacerLaw (((Pacer.acceptEdge now k { p with tracking := .tracking }).openSlotNow now).edgeWatch now) := by
  have hsame : ∀ q : Pacer, (q.edgeWatch now).mode = q.mode ∧ (q.edgeWatch now).settings = q.settings := fun q => by
    unfold Pacer.edgeWatch
    split <;> exact ⟨rfl, rfl⟩
  obtain ⟨hmode, hsettings⟩ := hsame { p with tracking := .tracking }
  rw [Pacer.edgeWatch_openSlotNow]
  refine PacerLaw.openSlotNow (PacerLaw.acceptEdge (h.regain hm now) now ?_) (hmode.trans hm) now
  rw [hsettings]
  exact hk

/-- Step 9 of R183. -/
theorem PacerLaw.restart (h : PacerLaw p) : PacerLaw p.restart :=
  { settings := h.settings
    active := h.active
    pending := h.pending
    history := Nat.zero_le _
    intervals := fun _ hg => absurd hg List.not_mem_nil
    free := fun _ => rfl
    seats := fun k hk => nomatch hk
    watch := by simp [Pacer.restart, Pacer.cold] }

theorem pacerLaw_cold : PacerLaw Pacer.cold :=
  { settings := by decide
    active := by decide
    pending := by decide
    history := Nat.zero_le _
    intervals := fun _ hg => absurd hg List.not_mem_nil
    free := fun _ => rfl
    seats := fun k hk => nomatch hk
    watch := by decide }

end Pacer

section Edges
variable {s t : State}

theorem State.regain_pacer (s : State) : s.regain.pacer = { s.pacer with tracking := .tracking } := by
  unfold State.regain
  split
  · simp
  · rename_i h
    rw [← Tracking.eq_tracking h]

/-- Tracking regained, then the whole pacer replaced: the journal and the raised pair change nothing that is read. -/
theorem Keeps.regainWith (h : Keeps s t) {p : Pacer} (hp : PacerLaw t.pacer → PacerLaw p) :
    Keeps s { t.regain with pacer := p } := by
  unfold State.regain
  split
  · have hback := ((h.withPacer hp).append (.carrierRegained (t.clock - t.pacer.lastEdge.getD t.pacer.watchFrom))).raise
      (.lift .carrierRegained)
    rw [State.raise_eq] at hback ⊢
    exact hback
  · exact h.withPacer hp

theorem Keeps.acceptEdge (h : Keeps s t) (hm : t.pacer.mode = .paced) {k : EdgeClass}
    (hk : ∀ g, k = .inPace g → t.pacer.settings.intervalMin ≤ g ∧ g ≤ t.pacer.settings.intervalMax) :
    Keeps s (t.acceptEdge k) := by
  unfold State.acceptEdge
  refine (h.regainWith fun hp => ?_).arbitrate
  rw [State.regain_pacer]
  exact hp.edge hm _ hk

/-! ### Starts (R183) -/

theorem rangeLaw_emptied (s : State) : RangeLaw s.emptied where
  tariffs := fun k => by
    rw [show s.emptied.tariffs.get k = Tariff.cold from Eight.get_all _ k]
    revert k
    decide
  offset := Nat.zero_lt_succ _
  lastOpened := Nat.zero_le _
  configs := fun i => by
    rw [show s.emptied.lane i = LaneUnit.atStart LaneConfig.cold 1 LaneCounts.zero from Six.get_all _ i]
    decide
  nextCredits := fun i => by
    rw [show s.emptied.lane i = LaneUnit.atStart LaneConfig.cold 1 LaneCounts.zero from Six.get_all _ i]
    decide
  levels := rfl
  masks := fun l => by
    rw [show s.emptied.link l = Endpoint.atStart from Eight.get_all _ l]
    decide

theorem balanceLaw_emptied (s : State) : BalanceLaw s.emptied := fun i => by
  rw [show s.emptied.lane i = LaneUnit.atStart LaneConfig.cold 1 LaneCounts.zero from Six.get_all _ i]
  exact LaneUnit.balanced_of_zero rfl rfl

section Restart
variable (s) (kind : StartKind) (cause : StartCause) (old : Option DayState × Nat × Nat)

theorem State.restart_lane (i : LaneNo) : (s.restart kind cause old).lane i = (s.lane i).restart :=
  Six.get_map _ _ i

/-- A start closes the day with every queue empty. -/
theorem dayLaw_restart : DayLaw (s.restart kind cause old) where
  closed := fun _ => State.credits_eq_nil.mpr fun i => by rw [State.restart_lane, LaneUnit.restart_queue]
  closing := fun h => nomatch h

theorem Keeps.restart : Keeps s (s.restart kind cause old) where
  days := fun ⟨_, hbalance⟩ => ⟨dayLaw_restart s kind cause old, fun i => by
    rw [State.restart_lane]
    exact LaneUnit.Balanced.restart (hbalance i)⟩
  pacer := fun hp => hp.restart
  ranges := fun hr =>
    { tariffs := hr.tariffs
      offset := Nat.zero_lt_succ _
      lastOpened := hr.lastOpened
      configs := fun i => by rw [State.restart_lane]; exact hr.configs i
      nextCredits := fun i => by rw [State.restart_lane]; exact hr.nextCredits i
      levels := hr.levels
      masks := fun l => by
        rw [show (s.restart kind cause old).link l = Endpoint.atStart from Eight.get_all _ l]
        decide }

end Restart

theorem dayLaw_emptied (s : State) : DayLaw s.emptied where
  closed := fun _ => rfl
  closing := fun h => nomatch h

theorem keeps_emptied (s : State) : Keeps s s.emptied where
  days := fun _ => ⟨dayLaw_emptied s, balanceLaw_emptied s⟩
  pacer := fun _ => pacerLaw_cold
  ranges := fun _ => rangeLaw_emptied s

theorem Keeps.start (h : Keeps s t) (kind : StartKind) (cause : StartCause) : Keeps s (t.start kind cause) := by
  unfold State.start
  refine Keeps.append (h.trans (Keeps.trans ?_ (Keeps.restart _ _ _ _))) _
  split
  · exact keeps_emptied t
  · exact Keeps.refl t

theorem Keeps.clearAllSent (h : Keeps s t) (a : OutAnswer) : Keeps s (t.clearAllSent a) :=
  (h.start .cold .clearAll).withOffice _ _

theorem Keeps.officeSent (h : Keeps s t) (a : OutAnswer) : Keeps s (t.officeSent a) := by
  unfold State.officeSent
  split
  · exact h.clearAllSent a
  · refine (h.modLink officeLink fun e => ?_).withOffice _ _
    unfold Endpoint.officeSent
    split <;> rfl

theorem Endpoint.beginSend_mask (lane : Bool) (e : Endpoint) : (e.beginSend lane).mask = e.mask := by
  unfold Endpoint.beginSend
  split <;> rfl

theorem Endpoint.uartSent_mask (lane : Bool) (e : Endpoint) : (e.uartSent lane).mask = e.mask := by
  unfold Endpoint.uartSent
  split
  · rfl
  · exact Endpoint.beginSend_mask _ _

theorem Keeps.clockOut (h : Keeps s t) : Keeps s t.clockOut := by
  have hfiller : Keeps s t.useFiller := by
    rw [State.useFiller_eq]; exact h.withOffice _ _
  unfold State.clockOut
  split
  · exact h.withOffice _ _
  · split
    · exact hfiller.withOffice _ _
    · unfold State.clockByte
      split
      · exact (hfiller.modLink officeLink (Endpoint.beginSend_mask false)).withOffice _ _
      · exact hfiller.officeSent _

theorem Keeps.outputsOff (h : Keeps s t) : Keeps s t.outputsOff := by
  refine h.trans <| SameSettings.keeps ⟨rfl, rfl, rfl, rfl, rfl, fun l => ?_⟩ (fun i => ?_) id
  · rw [State.link, State.outputsOff, Eight.get_map]
    rfl
  · rw [State.lane, State.lane, State.outputsOff, Six.get_map]
    exact .of_queue rfl rfl rfl rfl

end Edges

end Sys2Proof.Machine

/-! ## What requests keep of the laws of day, balance, pacer and ranges -/

namespace Sys2Proof.Machine

/-- A request's action keeps the laws. -/
def KeepsLaws (act : State → State × Answer) : Prop := ∀ s : State, Keeps s (act s).1

theorem keepsLaws_report (f : State → Answer) : KeepsLaws (report f) := Keeps.refl

theorem keepsLaws_onLinkLane {l : LinkNo} {act : LaneNo → State → State × Answer} (h : ∀ i, KeepsLaws (act i)) :
    KeepsLaws (onLinkLane l act) := by
  intro s
  unfold onLinkLane
  split
  · exact h _ s
  · exact Keeps.refl s

theorem keepsLaws_onLane {lane : Nat} {act : LaneNo → State → State × Answer} (h : ∀ i, KeepsLaws (act i)) :
    KeepsLaws (onLane lane act) := by
  intro s
  unfold onLane
  split
  · exact h _ s
  · exact Keeps.refl s

theorem keepsLaws_onPass {n : Nat} {act : Pass → State → State × Answer} (h : ∀ p, KeepsLaws (act p)) :
    KeepsLaws (onPass n act) := by
  intro s
  unfold onPass
  split
  · exact Keeps.refl s
  · split
    · exact Keeps.refl s
    · exact h _ s

section Changes
variable {s t : State}

/-- Another pass list and free count. -/
theorem Keeps.withTable (h : Keeps s t) (ps : List Pass) (free : Nat) :
    Keeps s { t with passes := ps, free := free } :=
  h.trans <| SameSettings.keeps_of_eq ⟨rfl, rfl, rfl, rfl, rfl, fun _ => rfl⟩ rfl rfl

/-- A change of settings beside the same credits and counts. -/
theorem Keeps.of_ranges (hday : t.day = s.day) (hq : ∀ i, (t.lane i).queue = (s.lane i).queue)
    (hc : ∀ i, (t.lane i).counts = (s.lane i).counts) (hp : t.pacer = s.pacer) (hr : RangeLaw s → RangeLaw t) :
    Keeps s t where
  days := fun ⟨hlaw, hbalance⟩ => by
    have hcredits : t.credits = s.credits := State.credits_congr hq
    refine ⟨⟨?_, ?_⟩, fun i => ?_⟩
    · rw [hday, hcredits]; exact hlaw.closed
    · rw [hday, hcredits]; exact hlaw.closing
    · rw [hc i, hq i]; exact hbalance i
  pacer := by rw [hp]; exact id
  ranges := hr

/-! ### Requests on passes (R11 to R35, R148) -/

theorem keepsLaws_loadPass (n check cls days paid first last : Nat) :
    KeepsLaws (loadPass n check cls days paid first last) := by
  intro s
  unfold loadPass
  split_ifs
  · exact Keeps.refl s
  · exact Keeps.refl s
  · exact Keeps.refl s
  · exact (Keeps.refl s).withTable _ _
  · exact Keeps.refl s

theorem keepsLaws_amendPass (n presence : Nat) (a : Amendment) : KeepsLaws (amendPass n presence a) := by
  intro s
  unfold amendPass
  split
  · exact Keeps.refl s
  · split
    · exact Keeps.refl s
    · split_ifs
      · exact Keeps.refl s
      · exact Keeps.refl s
      · exact Keeps.refl s
      · exact Keeps.refl s
      · exact (Keeps.refl s).withTable _ _

theorem keepsLaws_blockPass (p : Pass) : KeepsLaws (blockPass p) := by
  intro s
  have hblocked := (Keeps.refl s).modPass p.number fun q => { q with state := .blocked }
  unfold blockPass
  dsimp only
  split
  · exact Keeps.refl s
  · split
    · exact hblocked
    · split_ifs
      · exact hblocked.endHead _ _
      · exact hblocked.endCredit _ _ _
      · exact hblocked

theorem keepsLaws_unblockPass (p : Pass) : KeepsLaws (unblockPass p) := by
  intro s
  unfold unblockPass
  split
  · exact Keeps.refl s
  · exact (Keeps.refl s).modPass _ _

theorem keepsLaws_purgePass (p : Pass) : KeepsLaws (purgePass p) := by
  intro s
  unfold purgePass
  split
  · exact Keeps.refl s
  · exact (Keeps.refl s).withTable _ _

theorem Keeps.markOverUse (h : Keeps s t) (p : Pass) (day : Nat) : Keeps s (t.markOverUse p day) :=
  (h.modPass p.number Pass.setOverUse).append _

/-- A cut link moves no credit (R33). -/
theorem Keeps.cutLink (h : Keeps s t) (n : Nat) : Keeps s (t.cutLink n) :=
  h.withLanes fun i => by
    rw [Six.get_map]
    refine ⟨List.length_map _, fun hall => List.forall_mem_map.mpr fun c hc => ?_, rfl, rfl, rfl⟩
    have hway := hall c hc
    split <;> exact hway

theorem keepsLaws_mergeInWindow (day : Nat) (kind : DayKind) (p : Pass) : KeepsLaws (mergeInWindow day kind p) := by
  intro s
  unfold mergeInWindow
  split
  · exact (Keeps.refl s).markOverUse p day
  split
  · split_ifs
    · exact (Keeps.refl s).modPass _ _
    · exact Keeps.refl s
    · exact ((Keeps.refl s).cutLink p.number).modPass _ _
  · split_ifs
    · exact (Keeps.refl s).modPass _ _
    · exact (Keeps.refl s).markOverUse p day

theorem keepsLaws_mergeUse (n day kind : Nat) : KeepsLaws (mergeUse n day kind) := by
  intro s
  unfold mergeUse
  split
  · exact Keeps.refl s
  · refine keepsLaws_onPass (fun p s => ?_) s
    split
    · exact keepsLaws_mergeInWindow _ _ p s
    · exact Keeps.refl s

theorem keepsLaws_quoteRefund (p : Pass) : KeepsLaws (quoteRefund p) := by
  intro s
  unfold quoteRefund
  split <;> exact Keeps.refl s

theorem keepsLaws_settleRefund (generation : Nat) (p : Pass) : KeepsLaws (settleRefund generation p) := by
  intro s
  unfold settleRefund
  split
  · exact Keeps.refl s
  · split_ifs
    · exact Keeps.refl s
    · exact Keeps.refl s
    · exact ((Keeps.refl s).modPass _ _).append _

/-! ### PRESENT (R55, R66 to R69) -/

theorem nextNumber_mem {n : Nat} (h : 1 ≤ n ∧ n ≤ 65535) : 1 ≤ nextNumber n ∧ nextNumber n ≤ 65535 := by
  unfold nextNumber
  split <;> omega

theorem LaneUnit.enqueue_config (c : Credit) (u : LaneUnit) : (u.enqueue c).config = u.config := by
  unfold LaneUnit.enqueue LaneUnit.follow
  split <;> rfl

theorem LaneUnit.enqueue_nextCredit (c : Credit) (u : LaneUnit) :
    (u.enqueue c).nextCredit = nextNumber u.nextCredit := by
  unfold LaneUnit.enqueue LaneUnit.follow
  split <;> rfl

/-- A credit may come while the day is OPEN. -/
theorem Keeps.enqueue (h : Keeps s t) (hday : t.day = .opened) (i : LaneNo) (c : Credit) :
    Keeps s (t.modLane i (LaneUnit.enqueue c)) := by
  refine h.trans ⟨fun ⟨_, hbalance⟩ => ⟨⟨fun e => ?_, fun e => ?_⟩, fun j => ?_⟩, id, fun hr =>
    { tariffs := hr.tariffs, offset := hr.offset, lastOpened := hr.lastOpened, levels := hr.levels, masks := hr.masks
      configs := fun j => ?_, nextCredits := fun j => ?_ }⟩
  · exact nomatch hday.symm.trans e
  · exact nomatch hday.symm.trans e
  · rw [State.modLane_lane]
    split
    · exact LaneUnit.Balanced.enqueue (hbalance i) c
    · exact hbalance j
  · rw [State.modLane_lane]
    split
    · rw [LaneUnit.enqueue_config]; exact hr.configs i
    · exact hr.configs j
  · rw [State.modLane_lane]
    split
    · rw [LaneUnit.enqueue_nextCredit]; exact nextNumber_mem (hr.nextCredits i)
    · exact hr.nextCredits j

theorem State.linkFirstUse_day (s : State) (i : LaneNo) (p : Pass) : (s.linkFirstUse i p).day = s.day := by
  rw [State.linkFirstUse_eq]

theorem keeps_grant (hday : s.day = .opened) (i : LaneNo) (p : Pass) : Keeps s (grant i p s).1 := by
  have hlink : Keeps s (s.linkFirstUse i p) := by
    rw [State.linkFirstUse_eq]
    exact (Keeps.refl s).withTable _ _
  have hqueued := hlink.enqueue ((s.linkFirstUse_day i p).trans hday) i (newCredit s i p)
  rw [grant_fst]
  split
  · exact hqueued.offer i
  · exact hqueued

theorem keepsLaws_deny (i : LaneNo) (reason : DenyReason) (detail : Nat) : KeepsLaws (deny i reason detail) := by
  intro s
  unfold deny
  dsimp only
  refine Keeps.quietLane (Keeps.refl s) i ?_ ?_ ?_ ?_ <;> exact fun _ => rfl

theorem keepsLaws_present (pass check : Nat) (i : LaneNo) : KeepsLaws (present pass check i) := by
  intro s
  unfold present
  dsimp only
  split_ifs with _ hday
  · exact Keeps.refl s
  · exact keepsLaws_deny _ _ _ s
  · exact Keeps.refl s
  split
  · exact keepsLaws_deny _ _ _ s
  · split
    · exact keepsLaws_deny _ _ _ s
    · exact keeps_grant (not_not.mp hday) i _

/-! ### The office's day requests (R38 to R48) -/

theorem classIndex_eq_some {n : Nat} {k : Fin 8} (h : classIndex n = some k) : k.val = n := by
  unfold classIndex at h
  split at h
  · obtain rfl := Option.some.inj h
    rfl
  · cases h

theorem keepsLaws_setTariff (cls : Nat) (x : Tariff) : KeepsLaws (setTariff cls x) := by
  intro s
  unfold setTariff
  split
  · exact Keeps.refl s
  · exact Keeps.refl s
  · rename_i k hok hk
    split
    · exact Keeps.refl s
    · refine Keeps.of_ranges rfl (fun _ => rfl) (fun _ => rfl) rfl fun hr => { hr with tariffs := fun j => ?_ }
      rw [Eight.get_set]
      split
      · subst_vars
        rwa [classIndex_eq_some hk]
      · exact hr.tariffs j

theorem keepsLaws_readTariff (cls : Nat) : KeepsLaws (readTariff cls) := by
  intro s
  unfold readTariff
  split <;> exact Keeps.refl s

theorem offsetFor_lt (time clock : Nat) : offsetFor time clock < Config.dayMs := Nat.mod_lt _ (by decide)

theorem keepsLaws_setClock (time : Nat) : KeepsLaws (setClock time) := by
  intro s
  unfold setClock
  split_ifs
  · exact Keeps.refl s
  · exact Keeps.refl s
  · exact Keeps.of_ranges rfl (fun _ => rfl) (fun _ => rfl) rfl fun hr => { hr with offset := offsetFor_lt _ _ }

/-- What a new day zeroes leaves the lanes balanced, since their queues are empty (R46, R48). -/
theorem Keeps.zeroDay (hclosed : s.day = .closed) : Keeps s s.zeroDay := by
  have hlane : ∀ i, s.zeroDay.lane i = { s.lane i with counts := LaneCounts.zero } := fun i => Six.get_map _ _ i
  refine ⟨fun ⟨hday, _⟩ => ?_, fun hp => { hp with },
    fun hr => { hr with configs := fun i => ?_, nextCredits := fun i => ?_ }⟩
  · have hempty := State.credits_eq_nil.mp (hday.closed hclosed)
    refine ⟨⟨fun _ => State.credits_eq_nil.mpr fun i => ?_, fun e => nomatch hclosed.symm.trans e⟩, fun i => ?_⟩
    · rw [hlane]; exact hempty i
    · rw [hlane]; exact LaneUnit.balanced_of_zero rfl (hempty i)
  · rw [hlane]; exact hr.configs i
  · rw [hlane]; exact hr.nextCredits i

theorem Keeps.openNow (hclosed : s.day = .closed) {n : Nat} (hn : n ≤ 65535) : Keeps s (s.openNow n) := by
  have hopen : ∀ r : State, Keeps r { r with day := .opened, lastOpened := n } := fun r =>
    { days := fun ⟨_, hbalance⟩ => ⟨⟨(nomatch ·), (nomatch ·)⟩, hbalance⟩
      pacer := id
      ranges := fun hr => { hr with lastOpened := hn } }
  have hzeroed : Keeps s (if n = s.lastOpened then s else s.zeroDay) := by
    split
    · exact Keeps.refl s
    · exact Keeps.zeroDay hclosed
  unfold State.openNow
  simpa using ((hzeroed.trans (hopen _)).append _).raise _

theorem keepsLaws_openDay (n : Nat) : KeepsLaws (openDay n) := by
  intro s
  unfold openDay
  split_ifs with hrange hday
  · exact Keeps.refl s
  · exact Keeps.refl s
  · exact Keeps.refl s
  · exact Keeps.openNow (not_not.mp hday) (by omega)
  · exact Keeps.refl s

/-- The day may close its admission once every credit is on its way (R47, R48). -/
theorem Keeps.endAdmission (h : Keeps s t) (hway : OnTheirWay t.credits) : Keeps s t.endAdmission := by
  have hends := t.endAdmission_ends
  refine h.trans ⟨fun ⟨_, hbalance⟩ => ⟨⟨fun hc => ?_, fun hc => ?_⟩, fun i => ?_⟩, fun hp => ?_, fun hr =>
    { tariffs := by rw [hends.tariffs]; exact hr.tariffs
      offset := by rw [hends.offset]; exact hr.offset
      lastOpened := by rw [hends.lastOpened]; exact hr.lastOpened
      configs := fun i => by rw [t.endAdmission_lane]; exact hr.configs i
      nextCredits := fun i => by rw [t.endAdmission_lane]; exact hr.nextCredits i
      levels := by rw [hends.levels]; exact hr.levels
      masks := fun l => ?_ }⟩
  · rw [t.endAdmission_day] at hc
    rw [t.endAdmission_credits]
    split at hc
    · assumption
    · cases hc
  · rw [t.endAdmission_day] at hc
    rw [t.endAdmission_credits]
    split at hc
    · cases hc
    · exact ⟨‹_›, hway⟩
  · rw [t.endAdmission_lane]; exact hbalance i
  · rw [hends.pacer]; exact hp
  · rw [State.endAdmission, State.closeIfDrained_mask]; exact hr.masks l

/-- The withdrawals of CLOSE DAY leave the credits that are on their way (R47). -/
theorem State.withdrawAll_onTheirWay (hday : s.day ≠ .closing) : OnTheirWay s.withdrawAll.credits := by
  obtain ⟨-, hl⟩ := s.withdrawAll_withdrew hday
  refine State.onTheirWay_iff.mpr fun i c hc => ?_
  rw [(hl i).queue] at hc
  simpa using (List.mem_filter.mp hc).2

theorem keepsLaws_closeDay : KeepsLaws closeDay := by
  intro s
  cases hday : s.day with
  | closed => rw [closeDay_closed hday]; exact Keeps.refl s
  | closing => rw [closeDay_closing hday]; exact Keeps.refl s
  | opened =>
    have hway : OnTheirWay s.withdrawAll.credits := State.withdrawAll_onTheirWay (by simp [hday])
    rw [closeDay_opened hday]
    dsimp only
    exact (Keeps.refl s).withdrawAll.endAdmission hway

/-! ### The console's requests (R78 to R83, R126 to R133) -/

theorem Keeps.toOff (h : Keeps s t) (i : LaneNo) : Keeps s (t.modLane i LaneUnit.toOff) :=
  h.quietLane i (fun _ => rfl) (fun _ => rfl) (fun _ => rfl) fun _ => rfl

theorem Keeps.toSettling (h : Keeps s t) (i : LaneNo) (now : Nat) : Keeps s (t.modLane i (LaneUnit.toSettling now)) :=
  h.quietLane i (fun _ => rfl) (fun _ => rfl) (fun _ => rfl) fun _ => rfl

theorem keepsLaws_openLane (i : LaneNo) : KeepsLaws (openLane i) := by
  intro s
  unfold openLane
  dsimp only
  split
  case h_1 =>
    dsimp only
    refine Keeps.quietLane (Keeps.refl s) i ?_ ?_ ?_ ?_ <;> exact fun _ => rfl
  case h_3 => refine Keeps.raiseAt (Keeps.quietLane (Keeps.refl s) i ?_ ?_ ?_ ?_) _ i <;> exact fun _ => rfl
  all_goals exact Keeps.refl s

theorem keepsLaws_closeLane (i : LaneNo) : KeepsLaws (closeLane i) := by
  intro s
  unfold closeLane closeLane.inService
  dsimp only
  split
  case h_1 | h_4 => exact Keeps.refl s
  case h_2 | h_3 => exact (Keeps.refl s).toOff i
  all_goals exact (Keeps.refl s).closeInService i

theorem keepsLaws_clearLane (i : LaneNo) : KeepsLaws (clearLane i) := by
  intro s
  unfold clearLane
  split
  · exact (Keeps.refl s).toSettling i _
  · exact Keeps.refl s

/-- A clamped configuration may be stored (R77, R78). -/
theorem Keeps.store (h : Keeps s t) (i : LaneNo) (now : Nat) (config : LaneConfig) :
    Keeps s (t.modLane i (LaneUnit.store now (clampConfig config))) := by
  have hlane : ∀ j, (t.modLane i (LaneUnit.store now (clampConfig config))).lane j =
      { t.lane j with
        config := if j = i then clampConfig config else (t.lane j).config
        silenceEnd := if j = i then (t.lane i).silenceEnd.map fun _ => now + (clampConfig config).silenceLimit * 1000
          else (t.lane j).silenceEnd } := fun j => by
    rw [State.modLane_lane]
    split
    · subst_vars; rfl
    · rfl
  refine h.trans <| Keeps.of_ranges rfl (fun j => by rw [hlane]) (fun j => by rw [hlane]) rfl fun hr =>
    { hr with configs := fun j => ?_, nextCredits := fun j => by rw [hlane]; exact hr.nextCredits j }
  rw [hlane]
  dsimp only
  split
  · exact clampConfig_clampConfig config
  · exact hr.configs j

theorem keepsLaws_configureLane (config : LaneConfig) (i : LaneNo) : KeepsLaws (configureLane config i) := by
  intro s
  have hstored := (Keeps.refl s).store i s.clock config
  unfold configureLane configureLane.busy
  dsimp only
  split
  case h_1 | h_2 => exact hstored
  case h_3 | h_4 => exact hstored.toSettling i _
  all_goals exact Keeps.refl s

theorem LiftState.eq_stopped {x : LiftState} (h : .running ≠ x) : x = .stopped := by
  cases x
  · exact absurd rfl h
  · rfl

theorem Keeps.startLift (h : Keeps s t) (hstopped : t.pacer.lift = .stopped) : Keeps s t.startLift := by
  unfold State.startLift
  split
  · rename_i hm
    exact (h.withPacer fun hp => hp.runPaced hm hstopped t.clock).arbitrate
  · rename_i hm
    exact (h.withPacer fun hp => hp.runFree hm).freeReleaseAll

theorem Keeps.stopLift (h : Keeps s t) : Keeps s t.stopLift :=
  (h.withPacer PacerLaw.stop).withLanes fun i => by
    rw [Six.get_map]
    exact laneKeeps_liftStop _

theorem keepsLaws_setLift (state : Nat) : KeepsLaws (setLift state) := by
  intro s
  unfold setLift
  split
  · exact Keeps.refl s
  · split
    · exact Keeps.refl s
    · rename_i hchange
      split
      · exact (Keeps.refl s).startLift (LiftState.eq_stopped hchange)
      · exact (Keeps.refl s).stopLift

theorem keepsLaws_setSeats (seats : Nat) : KeepsLaws (setSeats seats) := fun s =>
  (Keeps.refl s).withPacer fun hp => hp.setSeats seats

theorem keepsLaws_setPacing (mode : Nat) (settings : PacingSettings) : KeepsLaws (setPacing mode settings) := by
  intro s
  unfold setPacing
  split
  · exact Keeps.refl s
  · rename_i m _
    have hset := (Keeps.refl s).withPacer fun hp => hp.setMode s.clock m settings
    dsimp only
    split
    · exact hset.freeReleaseAll
    · exact hset

/-! ### Event Status and reports (R163, R165, R167) -/

theorem keepsLaws_readEvents (l : LinkNo) : KeepsLaws (readEvents l) := by
  intro s
  unfold readEvents
  dsimp only
  refine Keeps.modLink (Keeps.refl s) l ?_
  exact fun _ => rfl

theorem keepsLaws_setMask (l : LinkNo) (mask : Nat) : KeepsLaws (setMask l mask) := by
  intro s
  unfold setMask
  split
  · exact Keeps.refl s
  · refine Keeps.of_ranges rfl (fun _ => rfl) (fun _ => rfl) rfl fun hr => { hr with masks := fun k => ?_ }
    rw [State.modLink_link]
    split
    · exact Nat.le_of_not_lt ‹_›
    · exact hr.masks k

theorem keepsLaws_setLevels (v : Levels) : KeepsLaws (setLevels v) := by
  intro s
  unfold setLevels
  split
  · exact Keeps.refl s
  · refine Keeps.of_ranges rfl (fun _ => rfl) (fun _ => rfl) rfl fun hr =>
      { hr with levels := ‹_›, masks := fun k => ?_ }
    rw [State.link, Eight.get_map]
    exact hr.masks k

theorem keepsLaws_readCounts (l : LinkNo) (selector : Nat) : KeepsLaws (readCounts l selector) := by
  intro s
  unfold readCounts
  split <;> exact Keeps.refl s

theorem keepsLaws_readJournal (start count : Nat) : KeepsLaws (readJournal start count) := by
  intro s
  unfold readJournal
  dsimp only
  split_ifs <;> exact Keeps.refl s

end Changes

/-- Every request of R178 keeps the laws. -/
theorem keepsLaws_requestAction {c : Instr} {l : LinkNo} {code tag : Nat} {act : State → State × Answer}
    (hc : requestAction c = some (l, code, tag, act)) : KeepsLaws act := by
  cases c <;> cases hc
  case present => exact keepsLaws_onLinkLane (keepsLaws_present _ _)
  case laneStatus => exact keepsLaws_onLinkLane fun _ => keepsLaws_report _
  case hello => exact keepsLaws_report _
  case readEvents => exact keepsLaws_readEvents _
  case setMask => exact keepsLaws_setMask _ _
  case setLevels => exact keepsLaws_setLevels _
  case readCounts => exact keepsLaws_readCounts _ _
  case readJournal => exact keepsLaws_readJournal _ _
  case loadPass => exact keepsLaws_loadPass _ _ _ _ _ _ _
  case amendPass => exact keepsLaws_amendPass _ _ _
  case blockPass => exact keepsLaws_onPass keepsLaws_blockPass
  case unblockPass => exact keepsLaws_onPass keepsLaws_unblockPass
  case purgePass => exact keepsLaws_onPass keepsLaws_purgePass
  case readPass => exact keepsLaws_onPass fun _ => keepsLaws_report _
  case mergeUse => exact keepsLaws_mergeUse _ _ _
  case quoteRefund => exact keepsLaws_onPass keepsLaws_quoteRefund
  case settleRefund => exact keepsLaws_onPass (keepsLaws_settleRefund _)
  case setTariff => exact keepsLaws_setTariff _ _
  case readTariff => exact keepsLaws_readTariff _
  case setClock => exact keepsLaws_setClock _
  case openDay => exact keepsLaws_openDay _
  case closeDay => exact keepsLaws_closeDay
  case readDay => exact keepsLaws_report _
  case readStart => exact keepsLaws_report _
  case clearAll => exact keepsLaws_report _
  case setLift => exact keepsLaws_setLift _
  case setSeats => exact keepsLaws_setSeats _
  case setPacing => exact keepsLaws_setPacing _ _
  case readLift => exact keepsLaws_report _
  case openLane => exact keepsLaws_onLane keepsLaws_openLane
  case closeLane => exact keepsLaws_onLane keepsLaws_closeLane
  case clearLane => exact keepsLaws_onLane keepsLaws_clearLane
  case configureLane => exact keepsLaws_onLane (keepsLaws_configureLane _)
  case readLane => exact keepsLaws_onLane fun _ => keepsLaws_report _
  case unknownRequest => exact keepsLaws_report _

end Sys2Proof.Machine

/-! ## Every step keeps the laws of day, balance, pacer and ranges -/

namespace Sys2Proof.Machine

theorem Gives.imp {P Q : State → Prop} {r : Result} (h : Gives P r) (hPQ : ∀ t, P t → Q t) : Gives Q r :=
  fun t ht => hPQ t (h t ht)

variable {s : State}

/-! ### Lane events -/

theorem keeps_rotorLeave (i : LaneNo) : Gives (Keeps s) (execRotorLeave i s) :=
  gives_whenRunning (Keeps.refl s) ((Keeps.refl s).modLane i fun _ => laneKeeps_leave _)

theorem keeps_mid (i : LaneNo) : Gives (Keeps s) (execMid i s) := by
  have hmarked : Keeps s (s.modLane i (LaneUnit.markMid s.clock)) :=
    (Keeps.refl s).quietLane i (fun _ => rfl) (fun _ => rfl) (fun _ => rfl) fun _ => rfl
  refine gives_whenRunning (Keeps.refl s) ?_
  dsimp only
  split_ifs
  · exact hmarked.endHead i _
  · exact hmarked
  · exact Keeps.refl s

theorem keeps_returnToHome (i : LaneNo) : Gives (Keeps s) (execReturnToHome i s) := by
  refine gives_whenRunning (Keeps.refl s) ?_
  split_ifs
  · split
    · exact (Keeps.refl s).returnHome i _
    · exact Keeps.refl s
  · exact Keeps.refl s

theorem laneKeeps_sample (now : Nat) (before : Beam) (level : Nat) (u : LaneUnit) :
    LaneKeeps u { u.reclassify now before (classify u.config level before) with
      lastSample := some { level := level, takenAt := now }, firstSample := false } :=
  (laneKeeps_reclassify now before _).trans (.of_queue rfl rfl rfl rfl)

theorem keeps_beamSample (i : LaneNo) (level : Nat) : Gives (Keeps s) (execBeamSample i level s) := by
  refine gives_whenRunning (Keeps.refl s) ?_
  dsimp only
  split
  · exact Keeps.refl s
  · rename_i before _
    have hsample := (Keeps.refl s).modLane i (laneKeeps_sample s.clock before level)
    split
    · exact hsample.detect i _
    · exact hsample

theorem keeps_beamBlockedExpiry (i : LaneNo) : Gives (Keeps s) (execBeamBlockedExpiry i s) := by
  refine gives_whenRunning (Keeps.refl s) ?_
  dsimp only
  split
  · exact Keeps.refl s
  · refine Keeps.raiseAt (Keeps.append (Keeps.quietLane ((Keeps.refl s).waitUntil _) i ?_ ?_ ?_ ?_) _) _ _ <;>
      exact fun _ => rfl

theorem keeps_settleExpiry (i : LaneNo) (home : Bool) : Gives (Keeps s) (execSettleExpiry i home s) := by
  refine gives_whenRunning (Keeps.refl s) ?_
  dsimp only
  split
  · exact Keeps.refl s
  · rename_i n _
    have hwait := (Keeps.refl s).waitUntil n
    split
    · exact Keeps.raiseAt (t := (s.waitUntil n).modLane i LaneUnit.settledHome)
        (hwait.quietLane i (fun _ => rfl) (fun _ => rfl) (fun _ => rfl) fun _ => rfl) _ i
    · exact Keeps.enterFault (t := (s.waitUntil n).modLane i (LaneUnit.settledAway (s.waitUntil n).clock))
        (hwait.quietLane i (fun _ => rfl) (fun _ => rfl) (fun _ => rfl) fun _ => rfl) i _

theorem keeps_creditLifeExpiry (i : LaneNo) (credit : Nat) : Gives (Keeps s) (execCreditLifeExpiry i credit s) := by
  refine gives_whenRunning (Keeps.refl s) ?_
  dsimp only
  split
  · exact Keeps.refl s
  · split
    · exact ((Keeps.refl s).waitUntil _).endHead i _
    · exact ((Keeps.refl s).waitUntil _).endCredit i _ _

theorem keeps_unlockStart (i : LaneNo) : Gives (Keeps s) (execUnlockStart i s) := by
  refine gives_whenRunning (Keeps.refl s) ?_
  split
  · exact Keeps.refl s
  · split
    · exact ((Keeps.refl s).waitUntil _).tryUnlock i
    · exact Keeps.refl s

theorem keeps_unlockEnd (i : LaneNo) : Gives (Keeps s) (execUnlockEnd i s) := by
  refine gives_whenRunning (Keeps.refl s) ?_
  split
  · exact Keeps.refl s
  · split
    · exact ((Keeps.refl s).waitUntil _).endHead i _
    · exact ((Keeps.refl s).waitUntil _).modLane i fun u => .of_queue u.markEndPassed_queue rfl rfl rfl
    · exact Keeps.refl s

theorem keeps_passageLimitExpiry (i : LaneNo) : Gives (Keeps s) (execPassageLimitExpiry i s) := by
  refine gives_whenRunning (Keeps.refl s) ?_
  dsimp only
  split
  · exact Keeps.refl s
  · refine Keeps.detect (Keeps.quietLane ((Keeps.refl s).waitUntil _) i ?_ ?_ ?_ ?_) i _ <;> exact fun _ => rfl

theorem keeps_silenceExpiry (i : LaneNo) : Gives (Keeps s) (execSilenceExpiry i s) := by
  refine gives_whenRunning (Keeps.refl s) ?_
  dsimp only
  split
  · exact Keeps.refl s
  · refine Keeps.raiseAt (Keeps.append (Keeps.withdraw
      (Keeps.quietLane ((Keeps.refl s).waitUntil _) i ?_ ?_ ?_ ?_) i _ _) _) _ _ <;> exact fun _ => rfl

/-! ### The pacer and the links -/

theorem keeps_carrierEdge : Gives (Keeps s) (execCarrierEdge s) := by
  refine gives_whenRunning (Keeps.refl s) ?_
  split
  · exact Keeps.refl s
  · rename_i hm
    split
    · exact Keeps.refl s
    · rename_i g hg
      refine (Keeps.refl s).acceptEdge hm fun x hx => ?_
      obtain rfl := EdgeClass.inPace.inj hx
      exact Pacer.classifyEdge_inPace hg
    · exact (Keeps.refl s).acceptEdge hm fun x hx => nomatch hx

theorem keeps_lostWatchExpiry : Gives (Keeps s) (execLostWatchExpiry s) := by
  refine gives_whenRunning (Keeps.refl s) ?_
  dsimp only
  split
  · exact ((((Keeps.refl s).waitUntil _).withPacer fun hp => hp.lose _).append _).raise _
  · exact Keeps.refl s

theorem keeps_frameDiscarded (l : LinkNo) : Gives (Keeps s) (execFrameDiscarded l s) := by
  refine gives_whenRunning (Keeps.refl s) ?_
  split
  · exact Keeps.refl s
  · exact (Keeps.refl s).idleReceiver l

theorem keeps_byteError (l : LinkNo) : Gives (Keeps s) (execByteError l s) := by
  refine gives_whenRunning (Keeps.refl s) ?_
  split
  · exact (Keeps.refl s).idleReceiver l
  · exact Keeps.refl s

theorem keeps_frameGapExpiry (l : LinkNo) : Gives (Keeps s) (execFrameGapExpiry l s) := by
  refine gives_whenRunning (Keeps.refl s) ?_
  split
  · exact Keeps.refl s
  · split
    · exact ((Keeps.refl s).waitUntil _).idleReceiver l
    · exact Keeps.refl s

theorem keeps_chipSelectRelease : Gives (Keeps s) (execChipSelectRelease s) := by
  refine gives_whenRunning (Keeps.refl s) ?_
  exact (Keeps.refl s).idleReceiver officeLink

theorem keeps_answerSendBegin (l : LinkNo) : Gives (Keeps s) (execAnswerSendBegin l s) := by
  have hbegun := (Keeps.refl s).modLink l (Endpoint.beginSend_mask (isLaneLink l))
  refine gives_whenRunning (Keeps.refl s) ?_
  dsimp only
  split
  · exact Keeps.refl s
  · split_ifs
    · exact Keeps.refl s
    · exact hbegun
    · exact hbegun.withOffice _ _

theorem keeps_answerSent (l : LinkNo) : Gives (Keeps s) (execAnswerSent l s) := by
  refine gives_whenRunning (Keeps.refl s) ?_
  split
  · exact Keeps.refl s
  · split
    · exact (Keeps.refl s).modLink l (Endpoint.uartSent_mask _)
    · exact (Keeps.refl s).officeSent _

/-! ### Starts, RESET and power -/

/-- The commands that wait, the run state and the clock are none of these laws' business. -/
theorem keeps_run (s : State) (q : List Instr) (r : RunState) (clock : Nat) :
    Keeps s { s with pending := q, run := r, clock := clock } :=
  SameSettings.keeps_of_eq ⟨rfl, rfl, rfl, rfl, rfl, fun _ => rfl⟩ rfl rfl

theorem keeps_clearAllStart : Gives (Keeps s) (execClearAllStart s) := by
  refine gives_whenRunning (Keeps.refl s) ?_
  split
  · exact (Keeps.refl s).clearAllSent _
  · exact Keeps.refl s

theorem keeps_powerUp (retainOk : Bool) : Gives (Keeps s) (execPowerUp retainOk s) := by
  refine gives_next.mpr ?_
  split
  case h_1 => exact keeps_run s _ _ _
  case h_2 => exact (Keeps.refl s).start _ _
  all_goals exact Keeps.refl s

theorem keeps_resetAsserted : Gives (Keeps s) (execResetAsserted s) := by
  refine gives_next.mpr ?_
  split
  case h_1 => exact (Keeps.refl s).outputsOff.trans (keeps_run _ _ _ _)
  case h_2 => exact keeps_run s _ _ _
  all_goals exact Keeps.refl s

theorem keeps_resetReleased : Gives (Keeps s) (execResetReleased s) := by
  refine gives_next.mpr ?_
  split
  case h_1 | h_2 => exact (Keeps.refl s).start _ _
  case h_3 => exact keeps_run s _ _ _
  case h_4 => exact Keeps.refl s

theorem keeps_powerLoss : Gives (Keeps s) (execPowerLoss s) := by
  refine gives_next.mpr ?_
  split
  case h_1 => exact (Keeps.refl s).outputsOff.trans (keeps_run _ _ _ _)
  case h_2 | h_3 => exact keeps_run s _ _ _
  case h_4 => exact Keeps.refl s

/-! ### Requests and bytes -/

theorem keeps_takeFrame {act : State → State × Answer} (hact : KeepsLaws act) (l : LinkNo) (code tag : Nat) :
    Gives (Keeps s) (takeFrame l code tag act s) :=
  have htaken := (Keeps.refl s).taken l
  gives_takeFrame (Keeps.refl s) (fun _ => htaken.modLink l fun _ => rfl)
    (fun a => (Keeps.refl s).answered l code tag a) fun a => (htaken.trans (hact _)).reply l code tag a

/-- A request, from its row or from the byte that completes its frame. -/
theorem keeps_runRequest (c : Instr) : Gives (Keeps s) (runRequest c s) := by
  cases hc : requestAction c with
  | none => rw [runRequest_noAction hc, gives_next]; exact Keeps.refl s
  | some x =>
    obtain ⟨l, code, tag, act⟩ := x
    rw [runRequest_requestAction hc]
    exact keeps_takeFrame (keepsLaws_requestAction hc) l code tag

theorem keeps_receiveByte (l : LinkNo) (b : Byte) : Gives (Keeps s) (receiveByte l b s) := by
  have hhold : ∀ bytes : List Byte, Keeps s (s.hold l bytes) := fun _ => (Keeps.refl s).modLink l fun _ => rfl
  have hidle := (Keeps.refl s).idleReceiver l
  unfold receiveByte
  split
  · rw [gives_next]
    split
    · exact hhold _
    · exact Keeps.refl s
  · dsimp only
    split_ifs
    · exact gives_next.mpr hidle
    · unfold completeFrame
      split
      · exact keeps_runRequest _
      · exact gives_next.mpr hidle
    · exact gives_next.mpr (hhold _)

theorem keeps_byteReceived (l : LinkNo) (b : Byte) : Gives (Keeps s) (execByteReceived l b s) := by
  have hout := (Keeps.refl s).clockOut
  unfold execByteReceived
  split_ifs
  · exact gives_next.mpr (Keeps.refl s)
  · exact keeps_receiveByte l b
  · exact gives_next.mpr hout
  · exact (keeps_receiveByte l b).imp fun _ => hout.trans
  · exact gives_next.mpr (Keeps.refl s)

/-- A command that is no request. -/
theorem keeps_event {c : Instr} (hc : requestAction c = none) : Gives (Keeps s) (exec c s) := by
  cases c <;> cases hc
  case frameDiscarded => exact keeps_frameDiscarded _
  case frameGapExpiry => exact keeps_frameGapExpiry _
  case byteError => exact keeps_byteError _
  case chipSelectRelease => exact keeps_chipSelectRelease
  case answerSendBegin => exact keeps_answerSendBegin _
  case answerSent => exact keeps_answerSent _
  case rotorLeave => exact keeps_rotorLeave _
  case mid => exact keeps_mid _
  case returnToHome => exact keeps_returnToHome _
  case beamSample => exact keeps_beamSample _ _
  case carrierEdge => exact keeps_carrierEdge
  case settleExpiry => exact keeps_settleExpiry _ _
  case creditLifeExpiry => exact keeps_creditLifeExpiry _ _
  case unlockStart => exact keeps_unlockStart _
  case unlockEnd => exact keeps_unlockEnd _
  case passageLimitExpiry => exact keeps_passageLimitExpiry _
  case silenceExpiry => exact keeps_silenceExpiry _
  case beamBlockedExpiry => exact keeps_beamBlockedExpiry _
  case lostWatchExpiry => exact keeps_lostWatchExpiry
  case powerUp => exact keeps_powerUp _
  case resetAsserted => exact keeps_resetAsserted
  case resetReleased => exact keeps_resetReleased
  case powerLoss => exact keeps_powerLoss
  case clearAllStart => exact keeps_clearAllStart
  case byteReceived => exact keeps_byteReceived _ _

theorem keeps_exec (c : Instr) : Gives (Keeps s) (exec c s) := by
  cases hc : requestAction c with
  | none => exact keeps_event hc
  | some x =>
    obtain ⟨l, code, tag, act⟩ := x
    rw [exec_requestAction hc]
    exact keeps_takeFrame (keepsLaws_requestAction hc) l code tag

theorem keeps_step : Gives (Keeps s) (step s) := by
  unfold step
  split
  · rw [gives_next]
    unfold idle
    split
    · exact keeps_run s _ _ _
    · exact Keeps.refl s
  · rename_i c rest _
    exact (keeps_exec c).imp fun _ => (keeps_run s rest _ _).trans

end Sys2Proof.Machine

namespace Sys2Proof.Machine

/-- Settles O57: a credit comes while the day is OPEN alone and leaves with its outcome counted, the last one closing a
CLOSING day in the same event. -/
theorem dayAndBalanceLawsAreKept : Obligations.DayAndBalanceLawsAreKept :=
  fun _ t hday hbalance hstep => (keeps_step t hstep).days ⟨hday, hbalance⟩

/-- Settles O58: every change of the pacer keeps its laws, and every stored setting is checked or clamped first. -/
theorem pacerLawsAndRangesAreKept : Obligations.PacerLawsAndRangesAreKept :=
  fun _ t hpacer hrange hstep =>
    have h := keeps_step t hstep
    ⟨h.pacer hpacer, h.ranges hrange⟩

end Sys2Proof.Machine

/-! ## Tariffs, clock and the opening of the day (R37 to R46) -/

namespace Sys2Proof.Machine

/-- Settles O2: the two branches of `idle`. -/
theorem emptyQueueLetsOneMillisecondPass : Obligations.EmptyQueueLetsOneMillisecondPass := by
  intro s hq
  have hstep : step s = .next (idle s) := by
    unfold step
    rw [hq]
  rw [hstep]
  exact ⟨fun hr => by rw [idle, if_pos hr], fun hr => by rw [idle, if_neg hr]⟩

/-! ### SET TARIFF and READ TARIFF (R38, R39) -/

theorem classIndex_val (k : Fin 8) : classIndex k.val = some k := by simp [classIndex]

theorem classIndex_eq_none {n : Nat} : classIndex n = none ↔ 7 < n := by
  unfold classIndex
  split
  · simp only [reduceCtorEq, false_iff]
    omega
  · simp only [true_iff]
    omega

section SetTariff
variable {cls : Nat} {t : Tariff} {s : State}

theorem setTariff_bad {f : TariffField} (h : tariffBad cls t = some f) :
    setTariff cls t s = (s, .tariffOutOfRange f) := by
  simp [setTariff, h]

theorem setTariff_good (h : tariffBad cls t = none) {k : Fin 8} (hk : k.val = cls) :
    setTariff cls t s =
      if s.day ≠ .closed then (s, .dayOpen none) else ({ s with tariffs := s.tariffs.set k t }, .tariff t) := by
  subst hk
  simp [setTariff, h, classIndex_val]

theorem readTariff_val (k : Fin 8) : readTariff k.val s = (s, .tariff (s.tariffs.get k)) := by
  simp [readTariff, classIndex_val]

theorem readTariff_outOfRange (h : 7 < cls) : readTariff cls s = (s, .outOfRange) := by
  simp [readTariff, classIndex_eq_none.mpr h]

/-- With the class number and the first five fields in range, the passback hold is left to check. -/
theorem tariffBad_hold (hc : cls ≤ 7) (h1 : t.rate ≤ 65535) (h2 : t.halfMinute ≤ 1440) (h3 : t.fraction ≤ 10000)
    (h4 : t.fee ≤ 65535) (h5 : 1 ≤ t.quantum) (h6 : t.quantum ≤ 1000) :
    tariffBad cls t = if 60 < t.hold then some .hold else none := by
  simp [tariffBad, classOk, hc, Nat.not_lt_of_le h1, Nat.not_lt_of_le h2, Nat.not_lt_of_le h3, Nat.not_lt_of_le h4,
    Nat.ne_of_gt h5, h6]

end SetTariff

/-- Settles O30: `tariffBad` names the first field out of range, the class number first. -/
theorem setTariffThenReadTariff : Obligations.SetTariffThenReadTariff := by
  intro tag cls t s ht run refused
  have hrun : run = .next ((setTariff cls t (s.taken officeLink)).1.reply officeLink 25 tag
      (setTariff cls t (s.taken officeLink)).2) := exec_taken rfl ht rfl rfl
  have hread : exec (.readTariff officeLink tag cls) s =
      .next ((readTariff cls (s.taken officeLink)).1.reply officeLink 26 tag
        (readTariff cls (s.taken officeLink)).2) := exec_taken rfl ht rfl rfl
  have hrefused : ∀ f, tariffBad cls t = some f → refused f := fun f hf => by
    show run = _
    rw [hrun, setTariff_bad hf]
    rfl
  refine ⟨fun hc => hrefused _ ?_, fun hc => ⟨fun hr => hrefused _ ?_, fun h1 hm => hrefused _ ?_,
    fun h1 h2 hb => hrefused _ ?_, fun h1 h2 h3 he => hrefused _ ?_, fun h1 h2 h3 h4 hq => hrefused _ ?_,
    fun h1 h2 h3 h4 h5 h6 => ?_⟩, fun k hk => ?_, fun hc => ?_⟩
  · simp [tariffBad, classOk, Nat.not_le_of_lt hc]
  · simp [tariffBad, classOk, hc, hr]
  · simp [tariffBad, classOk, hc, Nat.not_lt_of_le h1, hm]
  · simp [tariffBad, classOk, hc, Nat.not_lt_of_le h1, Nat.not_lt_of_le h2, hb]
  · simp [tariffBad, classOk, hc, Nat.not_lt_of_le h1, Nat.not_lt_of_le h2, Nat.not_lt_of_le h3, he]
  · simp [tariffBad, classOk, hc, Nat.not_lt_of_le h1, Nat.not_lt_of_le h2, Nat.not_lt_of_le h3, Nat.not_lt_of_le h4,
      hq]
  · have hhold := tariffBad_hold hc h1 h2 h3 h4 h5 h6
    have hgood : t.hold ≤ 60 → tariffBad cls t = none := fun hh => hhold.trans (if_neg (Nat.not_lt_of_le hh))
    refine ⟨fun hh => hrefused _ (hhold.trans (if_pos hh)), fun hh hday => ?_, fun hh hday k hk => ⟨?_, fun j => ?_⟩⟩
    · rw [hrun, setTariff_good (hgood hh) (k := ⟨cls, by omega⟩) rfl, if_pos ((s.taken_day _).trans_ne hday)]
      rfl
    · rw [hrun, setTariff_good (hgood hh) hk, if_neg (not_not.mpr ((s.taken_day _).trans hday)), s.taken_tariffs]
    · exact Eight.get_set _ _ _ _
  · subst hk
    rw [hread, readTariff_val, s.taken_tariffs]
    rfl
  · rw [hread, readTariff_outOfRange hc]
    rfl

/-! ### SET CLOCK (R41, R42) -/

/-- The offset makes the time of day the carried value. -/
theorem offsetFor_spec {time : Nat} (h : time < Config.dayMs) (clock : Nat) :
    (clock + offsetFor time clock) % Config.dayMs = time := by
  unfold offsetFor
  simp only [Config.dayMs] at h ⊢
  omega

section SetClock
variable {time : Nat} {s : State}

theorem setClock_outOfRange (h : Config.dayMs ≤ time) : setClock time s = (s, .outOfRange) := if_pos h

variable (h : time < Config.dayMs)
include h

theorem setClock_dayOpen (hday : s.day ≠ .closed) : setClock time s = (s, .dayOpen none) := by
  rw [setClock, if_neg (Nat.not_le_of_lt h), if_pos hday]

theorem setClock_taken (hday : s.day = .closed) :
    setClock time s = ({ s with offset := offsetFor time s.clock, clockSet := true }, .clock time) := by
  have htime : State.timeOfDay { s with offset := offsetFor time s.clock, clockSet := true } = time :=
    offsetFor_spec h s.clock
  rw [setClock, if_neg (Nat.not_le_of_lt h), if_neg (not_not.mpr hday)]
  dsimp only
  rw [htime]

end SetClock

/-- Settles O31: the three branches of `setClock`, with `offsetFor` as the offset. -/
theorem setClockMakesTheTimeOfDay : Obligations.SetClockMakesTheTimeOfDay := by
  intro tag time s ht
  have hrun : exec (.setClock officeLink tag time) s = .next ((setClock time (s.taken officeLink)).1.reply officeLink 27
      tag (setClock time (s.taken officeLink)).2) := exec_taken rfl ht rfl rfl
  have hday : (s.taken officeLink).day = s.day := s.taken_day _
  rw [hrun]
  refine ⟨fun hout => ?_, fun hin hopen => ?_, fun hin hclosed =>
    ⟨offsetFor time s.clock, offsetFor_lt _ _, offsetFor_spec hin _, ?_⟩⟩
  · rw [setClock_outOfRange hout]
    rfl
  · rw [setClock_dayOpen hin (hday.trans_ne hopen)]
    rfl
  · rw [setClock_taken hin (hday.trans hclosed)]
    rfl

/-! ### OPEN DAY (R45, R46) -/

section OpenDay
variable {n : Nat} {s : State} (hlo : n ≠ 0) (hhi : n ≤ 65535)
include hlo hhi

theorem openDay_dayOpen (hday : s.day ≠ .closed) : openDay n s = (s, .dayOpen (some s.lastOpened)) := by
  have hrange : ¬ (n = 0 ∨ 65535 < n) := by omega
  rw [openDay, if_neg hrange, if_pos hday, State.currentDay, if_neg hday]

/-- The checks that follow on a CLOSED day. -/
theorem openDay_closed (hday : s.day = .closed) :
    openDay n s =
      if ¬ s.clockSet then (s, .clockNotSet)
      else if n < s.lastOpened then (s, .dayBehind s.lastOpened)
      else (s.openNow n, .dayOpened n (n = s.lastOpened) s.timeOfDay) := by
  have hrange : ¬ (n = 0 ∨ 65535 < n) := by omega
  rw [openDay, if_neg hrange, if_neg (not_not.mpr hday)]

end OpenDay

theorem State.openNow_reopen {s : State} {n : Nat} (h : n = s.lastOpened) :
    s.openNow n =
      ({ s with day := .opened, lastOpened := n }.append (.dayOpened n true)).raise (.lift .dayState) := by
  simp [State.openNow, h]

theorem State.openNow_newDay {s : State} {n : Nat} (h : n ≠ s.lastOpened) :
    s.openNow n =
      ({ s.zeroDay with day := .opened, lastOpened := n }.append (.dayOpened n false)).raise (.lift .dayState) := by
  simp [State.openNow, h]

/-- Settles O32: the checks of `openDay` in their order, then the two kinds of `openNow`. -/
theorem openDayOpensOrReopens : Obligations.OpenDayOpensOrReopens := by
  intro tag n s ht hhi run opened
  have hrun : run = .next ((openDay n (s.taken officeLink)).1.reply officeLink 28 tag
      (openDay n (s.taken officeLink)).2) := exec_taken rfl ht rfl rfl
  have hday : (s.taken officeLink).day = s.day := s.taken_day _
  have hlast : (s.taken officeLink).lastOpened = s.lastOpened := s.taken_lastOpened _
  have hset : (s.taken officeLink).clockSet = s.clockSet := by rw [State.taken_eq]
  refine ⟨fun hn => ?_, fun hn hopen => ?_, fun hn hclosed => ⟨fun hc => ?_, fun hc hlt => ?_, fun hc he => ?_,
    fun hc hlt => ?_⟩⟩
  · rw [hrun, openDay, if_pos (.inl hn)]
    rfl
  · rw [hrun, openDay_dayOpen hn hhi (hday.trans_ne hopen), hlast]
    rfl
  all_goals have hchecks := openDay_closed hn hhi (hday.trans hclosed)
  · rw [hset, hc, if_pos (by simp)] at hchecks
    rw [hrun, hchecks]
    rfl
  · rw [hset, hc, if_neg (by simp), hlast, if_pos hlt] at hchecks
    rw [hrun, hchecks]
    rfl
  · rw [hset, hc, if_neg (by simp), hlast, if_neg (by omega), State.openNow_reopen (he.trans hlast.symm),
      decide_eq_true he] at hchecks
    show run = _
    rw [hrun, hchecks]
    rfl
  · rw [hset, hc, if_neg (by simp), hlast, if_neg (by omega), State.openNow_newDay (by omega),
      decide_eq_false (by omega)] at hchecks
    show run = _
    rw [hrun, hchecks]
    rfl

end Sys2Proof.Machine

/-! ## Cold starts (R181 to R185) -/

namespace Sys2Proof.Machine

/-- What a COLD start leaves, whatever the memory was: the cold values, the START record alone, and what step 1 of R183
accounts for. -/
def State.coldStarted (s : State) (cause : StartCause) (old : Option DayState × Nat × Nat) : State :=
  { State.reset with
    pending := s.pending, freeCount := s.freeCount
    journal := [{ seq := 1, stamp := none, body := .start .cold cause old.2.1 old.2.2 }]
    startRecord :=
      { kind := .cold, cause := cause, dayBefore := old.1, lastOpened := 0, withdrawn := old.2.1, removed := old.2.2
        seq := 1 } }

theorem State.start_cold (s : State) (cause : StartCause) :
    s.start .cold cause = s.coldStarted cause (s.accounted .cold cause) := rfl

/-- The start at power-up accounts for nothing (R183 step 1), as the one that gave the reset state. -/
theorem State.start_cold_powerUp (s : State) :
    s.start .cold .powerUp = { State.reset with pending := s.pending, freeCount := s.freeCount } := rfl

/-- CLEAR ALL's start accounts for the day state, the credits and the TENTATIVE entries (R183 step 1). -/
theorem State.clearAllSent_eq (s : State) (a : OutAnswer) :
    s.clearAllSent a =
      { s.coldStarted .clearAll
          (some s.day, s.credits.length, (s.passes.map fun p => tentatives p.uses).sum) with
        office := { readPos := 0, fillerOpen := false, dataOut := a.bytes.getLastD 0#8 } } := by
  rw [State.clearAllSent, State.start_cold, ← s.queued_eq_length_credits]
  rfl

section Office
variable {s : State} {a : OutAnswer} {as : List OutAnswer}

theorem exec_answerSent_cleared (hrun : s.run = .running) (hout : (s.link officeLink).output = a :: as)
    (ha : a.answer = .cleared) : exec (.answerSent officeLink) s = .next (s.clearAllSent a) := by
  show execAnswerSent officeLink s = _
  rw [execAnswerSent, whenRunning, if_pos hrun, hout]
  show Host.Outcome.next (s.officeSent a) = _
  rw [State.officeSent, if_pos ha]

/-- The last byte of CLEAR ALL's answer takes the start, and the byte clocked in with it is lost (log 20). -/
theorem exec_byteReceived_cleared (hrun : s.run = .running) (hout : (s.link officeLink).output = a :: as)
    (ha : a.answer = .cleared) (hfiller : s.office.fillerOpen = false) (hlast : a.bytes.length ≤ s.office.readPos + 1)
    (b : Byte) : exec (.byteReceived officeLink b) s = .next (s.clearAllSent a) := by
  have hno : s.fillerNow = false := by simp [State.fillerNow, hfiller]
  have huse : s.useFiller = s := by simp [State.useFiller, hfiller]
  have hclears : s.clearsNow = true := by simp [State.clearsNow, hout, hno, ha, hlast]
  have hclock : s.clockOut = s.clearAllSent a := by
    simp [State.clockOut, hout, hno, huse, State.clockByte, Nat.not_lt_of_le hlast, State.officeSent, ha]
  show execByteReceived officeLink b s = _
  rw [execByteReceived, if_pos hrun, if_neg (by decide), if_pos hclears, hclock]

end Office

/-- Settles O51: a cold start is `coldStarted`, at power-up with nothing to account for, and each of the three events
that end CLEAR ALL's answer takes it. -/
theorem coldStartsEmptyTheMemory : Obligations.ColdStartsEmptyTheMemory := by
  intro s cold powered cleared
  have hpowered : s.start .cold .powerUp = powered := s.start_cold_powerUp
  have hcleared : ∀ a, s.clearAllSent a = cleared a := s.clearAllSent_eq
  refine ⟨rfl, fun hr => ?_, fun hr => ?_, fun tag ht =>
    exec_taken (c := .clearAll officeLink tag) rfl ht rfl rfl, fun hr => ⟨fun a ha => ?_,
    fun hnone => ?_, fun a ha hc => ⟨?_, fun hfiller hlast b => ?_⟩⟩⟩
  · show execPowerUp false s = _
    rw [execPowerUp, hr]
    exact congrArg _ hpowered
  · show execResetReleased s = _
    rw [execResetReleased, hr]
    exact congrArg _ hpowered
  · have hqueued : s.clearAllQueued = some a := ha
    show execClearAllStart s = _
    rw [execClearAllStart, whenRunning, if_pos hr, hqueued, ← hcleared]
  · have hqueued : s.clearAllQueued = none := by
      simpa [State.clearAllQueued] using hnone
    show execClearAllStart s = _
    rw [execClearAllStart, whenRunning, if_pos hr, hqueued]
  all_goals obtain ⟨as, hout⟩ := List.head?_eq_some_iff.mp ha
  · rw [exec_answerSent_cleared hr hout hc, hcleared]
  · rw [exec_byteReceived_cleared hr hout hc hfiller hlast b, hcleared]

end Sys2Proof.Machine

/-! ## The credit reference of a pass (R63) -/

namespace Sys2Proof.Machine

/-- The place a credit is found at counts from where the search began. -/
theorem creditIn_eq_some {n : Nat} {q : List Credit} {k place : Nat} {c : Credit}
    (h : creditIn n q k = some (place, c)) : k ≤ place ∧ q[place - k]? = some c ∧ c.pass = n := by
  induction q generalizing k with
  | nil => cases h
  | cons d ds ih =>
    unfold creditIn at h
    split at h
    · obtain ⟨rfl, rfl⟩ := Prod.mk.inj (Option.some.inj h)
      exact ⟨Nat.le_refl _, by simp, ‹_›⟩
    · obtain ⟨hle, hget, hpass⟩ := ih h
      have hplace : place - k = (place - (k + 1)) + 1 := by omega
      exact ⟨Nat.le_of_succ_le hle, by rw [hplace, List.getElem?_cons_succ, hget], hpass⟩

theorem State.creditOf_eq_some {s : State} {n place : Nat} {i : LaneNo} {c : Credit}
    (h : s.creditOf n = some (i, place, c)) : (s.lane i).queue[place]? = some c ∧ c.pass = n := by
  obtain ⟨j, -, hj⟩ := List.exists_of_findSome?_eq_some h
  obtain ⟨⟨k, d⟩, hfound, he⟩ := Option.map_eq_some_iff.mp hj
  cases he
  exact (creditIn_eq_some hfound).2

/-- Settles O34: `creditIn` runs along each queue, lane by lane. -/
theorem creditReferenceFindsTheCredit : Obligations.CreditReferenceFindsTheCredit :=
  fun _ _ => ⟨State.creditOf_eq_none, fun _ _ _ => State.creditOf_eq_some⟩

/-! ## Withdrawals, head first (R103, R116) -/

theorem State.withdraw_nil {s : State} {i : LaneNo} (h : (s.lane i).queue = []) (cause : Cause)
    (which : Credit → Bool) : s.withdraw i cause which = s := by
  rw [State.withdraw, h, withdrawFrom]

theorem State.withdraw_single {s : State} {i : LaneNo} {c : Credit} (h : (s.lane i).queue = [c]) (cause : Cause)
    (which : Credit → Bool) :
    s.withdraw i cause which = if which c then s.endCredit i 0 (.withdrawn cause) else s := by
  rw [State.withdraw, h, withdrawFrom]
  rfl

/-- The second credit has moved up to the head exactly when the head has been withdrawn. -/
theorem State.withdraw_pair {s : State} {i : LaneNo} {c d : Credit} (h : (s.lane i).queue = [c, d]) (cause : Cause)
    (which : Credit → Bool) :
    s.withdraw i cause which =
      let t := if which c then s.endCredit i 0 (.withdrawn cause) else s
      if which d then t.endCredit i (if which c then 0 else 1) (.withdrawn cause) else t := by
  rw [State.withdraw, h, withdrawFrom]
  cases hc : which c
  · rfl
  · rfl

/-- Settles O20: `withdrawFrom` run along a queue of none, one and two credits. -/
theorem withdrawalsRunHeadFirst : Obligations.WithdrawalsRunHeadFirst :=
  ⟨fun _ _ _ => rfl, fun _ _ cause which =>
    ⟨fun h => State.withdraw_nil h cause which, fun _ h => State.withdraw_single h cause which,
      fun _ _ h => State.withdraw_pair h cause which⟩⟩

end Sys2Proof.Machine

/-! ## PRESENT that is turned away (R55 to R65) -/

namespace Sys2Proof.Machine

/-! ### What a pass that was found is denied for (R58 to R65) -/

section PassDeny
variable {s : State} {p : Pass} {check : Nat}

/-- A frame taken on the way changes nothing the checks of a pass read. -/
theorem passDeny_taken (s : State) (l : LinkNo) (p : Pass) (check : Nat) :
    passDeny (s.taken l) p check = passDeny s p check := by
  simp [passDeny, State.currentDay]

theorem passDeny_checkMismatch (h : check ≠ p.check) : passDeny s p check = some (.checkMismatch, 0) := if_pos h

theorem passDeny_blocked (h : p.state = .blocked) : passDeny s p p.check = some (.blocked, 0) := by
  simp [passDeny, h]

theorem passDeny_surrendered (h : p.state = .surrendered) : passDeny s p p.check = some (.surrendered, 0) := by
  simp [passDeny, h]

theorem passDeny_notYetValid (h : p.state = .active) (hfirst : s.currentDay < p.firstDay) :
    passDeny s p p.check = some (.notYetValid, p.firstDay) := by
  simp [passDeny, h, hfirst]

variable (hstate : p.state = .active) (hfirst : p.firstDay ≤ s.currentDay)
include hstate hfirst

theorem passDeny_expired (hlast : p.lastDay < s.currentDay) : passDeny s p p.check = some (.expired, p.lastDay) := by
  simp [passDeny, hstate, Nat.not_lt_of_le hfirst, hlast]

variable (hlast : s.currentDay ≤ p.lastDay)
include hlast

theorem passDeny_inUse {j : LaneNo} {place : Nat} {c : Credit} (h : s.creditOf p.number = some (j, place, c)) :
    passDeny s p p.check = some (.inUse, j.val) := by
  simp [passDeny, hstate, Nat.not_lt_of_le hfirst, Nat.not_lt_of_le hlast, h]

variable (hcredit : s.creditOf p.number = none)
include hcredit

theorem passDeny_passback {h : Nat} (hhold : p.holdEnd = some h) (hrun : s.clock < h) :
    passDeny s p p.check = some (.passback, (h - s.clock + 999) / 1000) := by
  simp [passDeny, hstate, Nat.not_lt_of_le hfirst, Nat.not_lt_of_le hlast, hcredit, hhold, hrun]

theorem passDeny_daysExhausted (hhold : ∀ h, p.holdEnd = some h → h ≤ s.clock)
    (huse : findUse s.currentDay p.uses = none) (hfull : p.uses.length = p.days) :
    passDeny s p p.check = some (.daysExhausted, p.days) := by
  have hpassback : ¬ p.holdEnd.any (s.clock < ·) = true := by
    cases hh : p.holdEnd with
    | none => simp
    | some h => simpa using hhold h hh
  simp [passDeny, hstate, Nat.not_lt_of_le hfirst, Nat.not_lt_of_le hlast, hcredit, hpassback, huse, hfull]

end PassDeny

/-! ### What PRESENT answers (R55 to R59) -/

section Present
variable {s : State} {i : LaneNo} {n check : Nat}

theorem present_notInService (hgate : (s.lane i).gate.inService = false) :
    present n check i s = (s, .notInService (s.lane i).gate) := by
  simp [present, GateState.notInService, hgate]

variable (hgate : (s.lane i).gate.inService = true)
include hgate

theorem present_dayClosed (hday : s.day ≠ .opened) : present n check i s = deny i .dayClosed s.day.code s := by
  simp [present, GateState.notInService, hgate, hday]

variable (hday : s.day = .opened)
include hday

theorem present_queueFull {c : Credit} {cs : List Credit} (hqueue : (s.lane i).queue = c :: cs) (hcs : cs ≠ []) :
    present n check i s = (s, .queueFull c.number) := by
  have hfull : Config.queueSize ≤ cs.length + 1 := Nat.succ_le_succ (List.length_pos_iff.mpr hcs)
  simp [present, GateState.notInService, hgate, hday, hqueue, hfull]

variable (hroom : (s.lane i).queue.length < 2)
include hroom

theorem present_unknownPass (hp : s.findPass n = none) : present n check i s = deny i .unknownPass 0 s := by
  have hopen : ¬ Config.queueSize ≤ (s.lane i).queue.length := Nat.not_le_of_lt hroom
  simp [present, GateState.notInService, hgate, hday, hopen, hp]

theorem present_denied {p : Pass} {reason : DenyReason} {detail : Nat} (hp : s.findPass n = some p)
    (hdeny : passDeny s p check = some (reason, detail)) : present n check i s = deny i reason detail s := by
  have hopen : ¬ Config.queueSize ≤ (s.lane i).queue.length := Nat.not_le_of_lt hroom
  simp [present, GateState.notInService, hgate, hday, hopen, hp, hdeny]

end Present

section Taken
variable {s : State} {i : LaneNo} {tag n check : Nat} (ht : Takes s (linkOfLane i))
include ht

theorem exec_present : exec (.present (linkOfLane i) tag n check) s =
    .next ((present n check i (s.taken (linkOfLane i))).1.reply (linkOfLane i) 1 tag
      (present n check i (s.taken (linkOfLane i))).2) :=
  exec_taken_linkLane (act := present n check) rfl ht rfl rfl

theorem exec_present_answered {a : Answer}
    (h : present n check i (s.taken (linkOfLane i)) = (s.taken (linkOfLane i), a)) :
    exec (.present (linkOfLane i) tag n check) s = .next (s.answered (linkOfLane i) 1 tag a) :=
  (exec_present ht).trans (by rw [h]; rfl)

theorem exec_present_denied {reason : DenyReason} {detail : Nat}
    (h : present n check i (s.taken (linkOfLane i)) = deny i reason detail (s.taken (linkOfLane i))) :
    exec (.present (linkOfLane i) tag n check) s =
      .next (State.reply ((s.taken (linkOfLane i)).modLane i fun u =>
        { u with counts := { u.counts with denies := u.counts.denies.add reason } }) (linkOfLane i) 1 tag
        (.deny reason detail)) :=
  (exec_present ht).trans (by rw [h]; rfl)

end Taken

/-- Settles O38: each check of `present` in the state its frame leaves, which reads as the state before it. -/
theorem presentIsTurnedAwayByTheFirstCheck : Obligations.PresentIsTurnedAwayByTheFirstCheck := by
  refine ⟨fun _ => ⟨rfl, rfl, rfl, rfl, rfl, rfl, rfl, rfl, rfl, rfl⟩, fun i tag n check s ht => ?_⟩
  intro u run denied
  let s' := s.taken (linkOfLane i)
  have hlane : s'.lane i = (s.lane i).revive s.clock := s.taken_lane_self i
  have hday : s'.day = s.day := s.taken_day _
  refine ⟨fun hgate => ?_, fun hgate => ?_⟩
  · have hgate' : (s'.lane i).gate.inService = false := by rw [hlane]; exact hgate
    exact exec_present_answered ht ((present_notInService hgate').trans (by rw [hlane]; rfl))
  have hgate' : (s'.lane i).gate.inService = true := by rw [hlane]; exact hgate
  refine ⟨fun hclosed => ?_, fun hclosing => ?_, fun hopen c cs hqueue hcs => ?_, fun hopen hroom => ?_⟩
  · have hnot : s'.day ≠ .opened := by simp [hday, hclosed]
    exact exec_present_denied ht ((present_dayClosed hgate' hnot).trans (by rw [hday, hclosed]; rfl))
  · have hnot : s'.day ≠ .opened := by simp [hday, hclosing]
    exact exec_present_denied ht ((present_dayClosed hgate' hnot).trans (by rw [hday, hclosing]; rfl))
  · exact exec_present_answered ht (present_queueFull hgate' (hday.trans hopen) ((s.taken_queue _ i).trans hqueue) hcs)
  have hopen' : s'.day = .opened := hday.trans hopen
  have hroom' : (s'.lane i).queue.length < 2 := by rw [s.taken_queue]; exact hroom
  have hcurrent : s.currentDay = s.lastOpened := State.currentDay_opened hopen
  refine ⟨fun hp => exec_present_denied ht (present_unknownPass hgate' hopen' hroom' ((s.taken_findPass _ n).trans hp)),
    fun p hp => ?_⟩
  obtain ⟨-, hnumber⟩ := State.findPass_eq_some hp
  have hpass : ∀ {reason detail}, passDeny s p check = some (reason, detail) → denied reason detail := fun h =>
    exec_present_denied ht (present_denied hgate' hopen' hroom' ((s.taken_findPass _ n).trans hp)
      ((passDeny_taken ..).trans h))
  refine ⟨fun hcheck => hpass (passDeny_checkMismatch hcheck), ?_⟩
  rintro rfl
  rw [← hcurrent, ← hnumber]
  refine ⟨fun hs => hpass (passDeny_blocked hs), fun hs => hpass (passDeny_surrendered hs), fun hs =>
    ⟨fun hfirst => hpass (passDeny_notYetValid hs hfirst), fun hfirst hlast => hpass (passDeny_expired hs hfirst hlast),
      fun hfirst hlast => ⟨fun j place c hc => hpass (passDeny_inUse hs hfirst hlast hc), fun hnone => ?_⟩⟩⟩
  have hcredit := State.creditOf_eq_none.mpr hnone
  exact ⟨fun h hhold hleft => hpass (passDeny_passback hs hfirst hlast hcredit hhold hleft),
    fun hhold huse hfull => hpass (passDeny_daysExhausted hs hfirst hlast hcredit hhold huse hfull)⟩

end Sys2Proof.Machine

/-! ## What the laws of a lane unit read

`LanesLaw` of a part that runs, taken apart by what its clauses read: the credits one by one, the sensors and timers
with the gate state, and the gate state, the rotor and the unlock output with the head credit. The effects of an event
may leave the last clauses open between them; `LaneUnit.serving_iff` ties the whole to the law. -/

namespace Sys2Proof.Machine

/-! ### Credits of a queue (R57, R69, R70) -/

/-- What `QueueLaw` asks of each credit. -/
structure Credit.Lawful (i : LaneNo) (c : Credit) : Prop where
  lane : c.lane = i
  life : c.lifeEnd.isSome = true ↔ c.state = .holding
  released : c.earliestUnlock.isSome = true ↔ c.state ≠ .holding
  unlocked : c.unlockEnd.isSome = true ↔ (c.state = .unlocked ∨ c.state = .passing)

section Queue
variable {i : LaneNo} {q r : List Credit} {c d : Credit}

theorem queueLaw_iff : QueueLaw i q ↔
    q.length ≤ Config.queueSize ∧ (∀ c ∈ q.tail, c.state = .holding) ∧ ∀ c ∈ q, c.Lawful i :=
  ⟨fun ⟨h2, hb, hl, hf, hr, hu⟩ => ⟨h2, hb, fun c hc => ⟨hl c hc, hf c hc, hr c hc, hu c hc⟩⟩, fun ⟨h2, hb, h⟩ =>
    ⟨h2, hb, fun c hc => (h c hc).lane, fun c hc => (h c hc).life, fun c hc => (h c hc).released,
      fun c hc => (h c hc).unlocked⟩⟩

theorem queueLaw_nil : QueueLaw i [] := queueLaw_iff.mpr (by simp)

theorem QueueLaw.lawful (h : QueueLaw i q) (hc : c ∈ q) : c.Lawful i := (queueLaw_iff.mp h).2.2 c hc

theorem QueueLaw.sublist (h : QueueLaw i q) (hr : r.Sublist q) : QueueLaw i r :=
  have ⟨htwo, hbehind, hlawful⟩ := queueLaw_iff.mp h
  queueLaw_iff.mpr ⟨hr.length_le.trans htwo, fun c hc => hbehind c (hr.tail.subset hc),
    fun c hc => hlawful c (hr.subset hc)⟩

theorem QueueLaw.newHead (h : QueueLaw i (c :: r)) (hd : d.Lawful i) : QueueLaw i (d :: r) :=
  have ⟨htwo, hbehind, hlawful⟩ := queueLaw_iff.mp h
  queueLaw_iff.mpr ⟨htwo, hbehind, List.forall_mem_cons.mpr ⟨hd, (List.forall_mem_cons.mp hlawful).2⟩⟩

/-- The credit after the head, when it heads the queue. -/
theorem QueueLaw.second (h : QueueLaw i (c :: d :: r)) : d.state = .holding := h.behind d List.mem_cons_self

theorem QueueLaw.append (h : QueueLaw i q) (hroom : q.length < 2) (hc : c.Lawful i) (hs : c.state = .holding) :
    QueueLaw i (q ++ [c]) := by
  obtain ⟨-, hbehind, hlawful⟩ := queueLaw_iff.mp h
  refine queueLaw_iff.mpr ⟨by simpa [Config.queueSize] using hroom, fun d hd => ?_, fun d hd => ?_⟩
  · cases q with
    | nil => cases hd
    | cons a as =>
      rcases List.mem_append.mp hd with hd | hd
      · exact hbehind d hd
      · rwa [List.mem_singleton.mp hd]
  · rcases List.mem_append.mp hd with hd | hd
    · exact hlawful d hd
    · rwa [List.mem_singleton.mp hd]

/-- A change of every credit that keeps what the laws read. -/
theorem QueueLaw.map (h : QueueLaw i q) {f : Credit → Credit} (hf : ∀ c ∈ q, c.Lawful i → (f c).Lawful i)
    (hs : ∀ c ∈ q, c.state = .holding → (f c).state = .holding) : QueueLaw i (q.map f) := by
  obtain ⟨htwo, hbehind, hlawful⟩ := queueLaw_iff.mp h
  refine queueLaw_iff.mpr ⟨by simpa using htwo, fun d hd => ?_,
    List.forall_mem_map.mpr fun c hc => hf c hc (hlawful c hc)⟩
  rw [← List.map_tail] at hd
  obtain ⟨c, hc, rfl⟩ := List.mem_map.mp hd
  exact hs c (List.mem_of_mem_tail hc) (hbehind c hc)

end Queue

/-! ### Sensors and timers (R79, R82, R85, R91, R97) -/

/-- The clauses of `SensorLaw` that read no credit, and the sensor power (R79). -/
structure LaneUnit.SensorsRun (u : LaneUnit) : Prop where
  tracker : u.tracker ≠ .notRead ↔ u.gate.reads = true
  beam : u.beam.isSome = true ↔ u.gate.reads = true
  rotation : u.rotation.isSome = true ↔ (u.tracker = .awayFirst ∨ u.tracker = .awaySecond)
  settle : u.settleEnd.isSome = true ↔ u.gate = .settling
  silence : u.gate = .off → u.silenceEnd = none
  passage : u.passageFrom.isSome = true → u.rotation.isSome = true
  blocked : u.blockedFrom.isSome = true → u.tracker = .home ∧ u.beam = some .broken
  power : u.sensorPower = decide (u.gate ≠ .off)

/-! ### The head credit (R80, R84 to R87, R93) -/

/-- The gate state of a lane with an empty queue; `leaving` as in `GateLaw`. -/
def LaneUnit.GateEmpty (leaving : Prop) (u : LaneUnit) : Prop :=
  u.gate = .ready ∨ u.gate = .off ∨ u.gate = .settling ∨ u.gate = .fault ∨
    (u.gate = .closing ∧ (u.tracker ≠ .home ∨ leaving))

/-- Gate state and unlock output show the head credit. -/
structure LaneUnit.Shows (c : Credit) (cs : List Credit) (u : LaneUnit) : Prop where
  gate : u.gate = gateOfCredit c.state ∨ (u.gate = .closing ∧ c.state = .passing ∧ cs = [])
  output : u.unlockOut = decide (c.state = .unlocked ∨ c.state = .passing)

/-- The rotor is where the head credit has it. -/
structure LaneUnit.RotorAt (c : Credit) (u : LaneUnit) : Prop where
  unlocked : c.state = .unlocked → u.tracker = .home
  passing : c.state = .passing → u.tracker = .awayFirst ∧ u.rotation.map Rotation.kind = some (.credited c.number)

/-- What a lane unit owes to the head of its queue. -/
def LaneUnit.HeadLaw (leaving : Prop) (u : LaneUnit) : List Credit → Prop
  | [] => u.GateEmpty leaving ∧ u.unlockOut = false
  | c :: cs => u.Shows c cs ∧ u.RotorAt c

/-- The laws of a lane unit of a part that runs. -/
structure LaneUnit.Serving (leaving : Prop) (i : LaneNo) (u : LaneUnit) : Prop where
  queue : QueueLaw i u.queue
  sensors : u.SensorsRun
  head : u.HeadLaw leaving u.queue

theorem LaneUnit.queue_cases (u : LaneUnit) : u.queue = [] ∨ ∃ c cs, u.queue = c :: cs := by
  cases hq : u.queue with
  | nil => exact .inl rfl
  | cons c cs => exact .inr ⟨c, cs, rfl⟩

theorem gateOfCredit_inService (x : CreditState) : (gateOfCredit x).inService = true := by cases x <;> rfl

section Law
variable {leaving : Prop} {i : LaneNo} {u : LaneUnit}

/-- What `SensorLaw` asks of a PASSING head (R87). -/
def LaneUnit.PassingHead (u : LaneUnit) : Prop :=
  ∀ c ∈ u.queue.head?, c.state = .passing →
    u.tracker = .awayFirst ∧ u.rotation.map Rotation.kind = some (.credited c.number)

variable {c : Credit} {cs : List Credit}

theorem shows_iff (hq : u.queue = c :: cs) :
    u.Shows c cs ↔ GateLaw leaving u ∧ u.unlockOut = u.headUnlocked := by
  unfold GateLaw LaneUnit.headUnlocked
  rw [hq]
  constructor
  · rintro ⟨hgate | ⟨hgate, hs, rfl⟩, hout⟩
    · rw [hgate]
      cases hs : c.state <;> simp [hout, hs, gateOfCredit]
    · simp [hgate, hout, hs]
  · rintro ⟨hgate, hout⟩
    refine ⟨?_, by simpa using hout⟩
    cases hg : u.gate <;> simp [hg] at hgate <;> simp [hgate, gateOfCredit]

/-- A lane is UNLOCKED exactly with its head credit (R80). -/
theorem GateLaw.unlocked_iff (h : GateLaw leaving u) (hq : u.queue = c :: cs) :
    u.gate = .unlocked ↔ c.state = .unlocked := by
  unfold GateLaw at h
  rw [hq] at h
  cases hg : u.gate <;> simp [hg] at h <;> simp [h]

theorem rotorAt_iff (h : GateLaw leaving u) (hq : u.queue = c :: cs) :
    u.RotorAt c ↔ (u.gate = .unlocked → u.tracker = .home) ∧ u.PassingHead := by
  rw [h.unlocked_iff hq, LaneUnit.PassingHead, hq]
  exact ⟨fun ⟨h1, h2⟩ => ⟨h1, by simpa using h2⟩, fun ⟨h1, h2⟩ => ⟨h1, by simpa using h2⟩⟩

theorem headLaw_iff : u.HeadLaw leaving u.queue ↔
    GateLaw leaving u ∧ (u.gate = .unlocked → u.tracker = .home) ∧ u.PassingHead ∧ u.unlockOut = u.headUnlocked := by
  cases hq : u.queue with
  | nil =>
    have hgate : u.GateEmpty leaving ↔ GateLaw leaving u := by
      unfold LaneUnit.GateEmpty GateLaw
      rw [hq]
      cases u.gate <;> simp
    have hlocked : GateLaw leaving u → u.gate ≠ .unlocked := fun h e => by simp [GateLaw, e, hq] at h
    have hout : u.headUnlocked = false := by simp [LaneUnit.headUnlocked, hq]
    have hpassing : u.PassingHead := by simp [LaneUnit.PassingHead, hq]
    rw [LaneUnit.HeadLaw, hgate, hout]
    exact ⟨fun ⟨h, ho⟩ => ⟨h, fun e => absurd e (hlocked h), hpassing, ho⟩, fun ⟨h, _, _, ho⟩ => ⟨h, ho⟩⟩
  | cons c cs =>
    rw [LaneUnit.HeadLaw, shows_iff (leaving := leaving) hq]
    constructor
    · rintro ⟨⟨hgate, hout⟩, hr⟩
      obtain ⟨h1, h2⟩ := (rotorAt_iff hgate hq).mp hr
      exact ⟨hgate, h1, h2, hout⟩
    · rintro ⟨hgate, h1, h2, hout⟩
      exact ⟨⟨hgate, hout⟩, (rotorAt_iff hgate hq).mpr ⟨h1, h2⟩⟩

/-- The laws of a lane unit, with the outputs of a part that runs. -/
theorem LaneUnit.serving_iff : u.Serving leaving i ↔
    LaneLaw leaving i u ∧ u.unlockOut = u.headUnlocked ∧ u.sensorPower = decide (u.gate ≠ .off) := by
  constructor
  · rintro ⟨hqueue, ⟨h1, h2, h3, h4, h5, h6, h7, hpower⟩, hhead⟩
    obtain ⟨hgate, hunlocked, hpassing, hout⟩ := headLaw_iff.mp hhead
    exact ⟨⟨hqueue, hgate, ⟨h1, h2, h3, hunlocked, hpassing, h4, h5, h6, h7⟩⟩, hout, hpower⟩
  · rintro ⟨⟨hqueue, hgate, ⟨h1, h2, h3, hunlocked, hpassing, h4, h5, h6, h7⟩⟩, hout, hpower⟩
    exact ⟨hqueue, ⟨h1, h2, h3, h4, h5, h6, h7, hpower⟩, headLaw_iff.mpr ⟨hgate, hunlocked, hpassing, hout⟩⟩

end Law

end Sys2Proof.Machine

/-! ## What updates of a lane unit keep of its laws -/

namespace Sys2Proof.Machine

variable {leaving leaving' : Prop} {i : LaneNo} {u : LaneUnit} {c d : Credit} {cs : List Credit} (now : Nat)

/-! ### Sensors and timers -/

theorem GateState.reads_of_inService {g : GateState} (h : g.inService = true) : g.reads = true := by
  revert h
  cases g <;> decide

/-- The rotor away from HOME under an open rotation record (R86). -/
def LaneUnit.away (r : Rotation) (u : LaneUnit) : LaneUnit :=
  { u with tracker := .awayFirst, rotation := some r, passageFrom := some now, blockedFrom := none }

theorem LaneUnit.leave_home (h : u.tracker = .home) :
    u.leave now = if u.gate = .unlocked then
      (u.away now (u.leaveRecord now)).modHead fun c => { c with state := .passing }
    else u.away now (u.leaveRecord now) := if_pos h

theorem LaneUnit.leave_away (h : u.tracker ≠ .home) : u.leave now = u := if_neg h

theorem LaneUnit.sensorsRun_toOff (u : LaneUnit) : u.toOff.SensorsRun := by
  constructor <;> simp [LaneUnit.toOff, GateState.reads]

theorem LaneUnit.sensorsRun_toSettling (u : LaneUnit) : (u.toSettling now).SensorsRun := by
  constructor <;> simp [LaneUnit.toSettling, GateState.reads]

namespace LaneUnit.SensorsRun

theorem ne_off (hr : u.gate.reads = true) : u.gate ≠ .off := fun e => by simp [e, GateState.reads] at hr
theorem ne_settling (hr : u.gate.reads = true) : u.gate ≠ .settling := fun e => by simp [e, GateState.reads] at hr

/-- The rotor is away with an open rotation record, and so the lane reads its sensors. -/
theorem reads_of_rotation (h : u.SensorsRun) (hr : u.rotation.isSome = true) : u.gate.reads = true := by
  refine h.tracker.mp fun e => ?_
  simpa [e] using h.rotation.mp hr

theorem reads_of_home (h : u.SensorsRun) (ht : u.tracker = .home) : u.gate.reads = true :=
  h.tracker.mp (by simp [ht])

theorem blockedFrom_none (h : u.SensorsRun) (ht : u.tracker ≠ .home) : u.blockedFrom = none := by
  cases hb : u.blockedFrom with
  | none => rfl
  | some t => exact absurd (h.blocked (by simp [hb])).1 ht

/-- A lane that reads no sensors runs neither timer of the rotor's (R79). -/
theorem timers_none (h : u.SensorsRun) (hr : u.gate.reads = false) :
    u.passageFrom = none ∧ u.blockedFrom = none := by
  have htracker : u.tracker = .notRead := by
    by_contra e
    simp [h.tracker.mp e] at hr
  refine ⟨Option.not_isSome_iff_eq_none.mp fun e => ?_, h.blockedFrom_none (by simp [htracker])⟩
  simp [h.reads_of_rotation (h.passage e)] at hr

/-- One gate state for another, with tracker and classifier running in both. -/
theorem withGate (h : u.SensorsRun) (hr : u.gate.reads = true) {g : GateState} (hg : g.reads = true) :
    SensorsRun { u with gate := g } where
  tracker := by simp [hg, h.tracker, hr]
  beam := by simp [hg, h.beam, hr]
  rotation := h.rotation
  settle := by
    have hs := mt h.settle.mp (ne_settling hr)
    exact ⟨fun e => absurd e hs, fun e => by simp [show g = .settling from e, GateState.reads] at hg⟩
  silence := fun e => by simp [show g = .off from e, GateState.reads] at hg
  passage := h.passage
  blocked := h.blocked
  power := by
    have hoff : g ≠ .off := fun e => by simp [e, GateState.reads] at hg
    simp [h.power, ne_off hr, hoff]

theorem follow (h : u.SensorsRun) : u.follow.SensorsRun := by
  unfold LaneUnit.follow
  split
  · exact h.withGate (GateState.reads_of_inService ‹_›) (GateState.reads_of_inService (gateOfQueue_inService _))
  · exact h

theorem away (h : u.SensorsRun) (hr : u.gate.reads = true) (r : Rotation) : (u.away now r).SensorsRun :=
  { h with
    tracker := by simp [LaneUnit.away, hr]
    rotation := by simp [LaneUnit.away]
    passage := by simp [LaneUnit.away]
    blocked := by simp [LaneUnit.away] }

theorem markMid (h : u.SensorsRun) (ht : u.tracker = .awayFirst) : (u.markMid now).SensorsRun :=
  { h with
    tracker := by simp [LaneUnit.markMid, ← h.tracker, ht]
    rotation := by simp [LaneUnit.markMid, h.rotation, ht]
    passage := by simpa [LaneUnit.markMid] using h.passage
    blocked := by simp [LaneUnit.markMid, h.blockedFrom_none (by simp [ht])] }

theorem atHome (h : u.SensorsRun) (ht : u.tracker = .awayFirst ∨ u.tracker = .awaySecond) : u.atHome.SensorsRun :=
  { h with
    tracker := by rcases ht with ht | ht <;> simp [LaneUnit.atHome, ← h.tracker, ht]
    rotation := by simp [LaneUnit.atHome]
    passage := by simp [LaneUnit.atHome]
    blocked := by
      have hnone := h.blockedFrom_none (by rcases ht with ht | ht <;> simp [ht])
      simp [LaneUnit.atHome, hnone] }

theorem watchBeam (h : u.SensorsRun) : (u.watchBeam now).SensorsRun := by
  unfold LaneUnit.watchBeam
  split
  · exact { h with blocked := fun _ => ‹_› }
  · exact h

/-- A change of classification (R90, R91). -/
theorem reclassify (h : u.SensorsRun) {before : Beam} (hb : u.beam = some before) (after : Beam) :
    (u.reclassify now before after).SensorsRun := by
  have hreads : u.gate.reads = true := h.beam.mp (by simp [hb])
  unfold LaneUnit.reclassify
  dsimp only
  split_ifs with hbroken hclear
  · refine SensorsRun.watchBeam now { h with beam := ?_, rotation := ?_, passage := ?_, blocked := fun e => ?_ }
    · simp [hreads]
    · simpa using h.rotation
    · simpa using h.passage
    · exact ⟨(h.blocked e).1, rfl⟩
  · exact { h with beam := by simp [hreads], blocked := by simp }
  · refine { h with beam := by simp [hreads], blocked := fun e => ?_ }
    obtain ⟨hhome, hwas⟩ := h.blocked e
    cases after with
    | broken => exact ⟨hhome, rfl⟩
    | clear => exact absurd rfl hclear

end LaneUnit.SensorsRun

/-! ### Updates that leave the head credit its gate state and rotor -/

theorem LaneUnit.GateEmpty.of_gate (h : u.GateEmpty leaving) {v : LaneUnit} (hg : v.gate = u.gate)
    (hc : u.gate = .closing → u.tracker ≠ .home ∨ leaving → v.tracker ≠ .home ∨ leaving') : v.GateEmpty leaving' := by
  unfold LaneUnit.GateEmpty at *
  rw [hg]
  rcases h with hready | hoff | hsettling | hfault | ⟨hclosing, ht⟩
  · exact .inl hready
  · exact .inr (.inl hoff)
  · exact .inr (.inr (.inl hsettling))
  · exact .inr (.inr (.inr (.inl hfault)))
  · exact .inr (.inr (.inr (.inr ⟨hclosing, hc hclosing ht⟩)))

namespace LaneUnit.Serving

theorem of_nil (h : u.Serving leaving i) (hq : u.queue = []) : u.GateEmpty leaving ∧ u.unlockOut = false := by
  have hhead := h.head
  rwa [hq] at hhead

theorem of_cons (h : u.Serving leaving i) (hq : u.queue = c :: cs) : u.Shows c cs ∧ u.RotorAt c := by
  have hhead := h.head
  rwa [hq] at hhead

/-- An update that leaves queue, gate state and unlock output; the rotor goes nowhere a head credit or an awaited leave
has it not. -/
theorem of_gate (h : u.Serving leaving i) {v : LaneUnit} (hs : v.SensorsRun) (hq : v.queue = u.queue)
    (hg : v.gate = u.gate) (ho : v.unlockOut = u.unlockOut)
    (hc : u.queue = [] → u.gate = .closing → u.tracker ≠ .home ∨ leaving → v.tracker ≠ .home ∨ leaving')
    (hr : ∀ c cs, u.queue = c :: cs → u.RotorAt c → v.RotorAt c) : v.Serving leaving' i where
  queue := by rw [hq]; exact h.queue
  sensors := hs
  head := by
    rw [hq]
    cases hq' : u.queue with
    | nil =>
      obtain ⟨hgate, hout⟩ := h.of_nil hq'
      exact ⟨hgate.of_gate hg (hc hq'), ho.trans hout⟩
    | cons c cs =>
      obtain ⟨⟨hgate, hout⟩, hrotor⟩ := h.of_cons hq'
      exact ⟨⟨by rw [hg]; exact hgate, ho.trans hout⟩, hr c cs hq' hrotor⟩

theorem imp (h : u.Serving leaving i) (hl : leaving → leaving') : u.Serving leaving' i :=
  h.of_gate h.sensors rfl rfl rfl (fun _ _ ht => ht.imp id hl) fun _ _ _ hr => hr

/-- An update of sensors and timers alone. -/
theorem of_head (h : u.Serving leaving i) {v : LaneUnit} (hs : v.SensorsRun) (hq : v.queue = u.queue)
    (hg : v.gate = u.gate) (ho : v.unlockOut = u.unlockOut) (ht : v.tracker = u.tracker)
    (hr : v.rotation.map Rotation.kind = u.rotation.map Rotation.kind) : v.Serving leaving i :=
  h.of_gate hs hq hg ho (fun _ _ hc => ht ▸ hc) fun _ _ _ ⟨hunlocked, hpassing⟩ =>
    ⟨by rw [ht]; exact hunlocked, by rw [ht, hr]; exact hpassing⟩

/-- The laws do not read these. -/
theorem quiet (h : u.Serving leaving i) (config : LaneConfig) (nextCredit : Nat) (lastSample : Option Sample)
    (firstSample : Bool) (link : LinkState) (fault : Option FaultRecord) (lastEnded : Option (Nat × CreditOutcome))
    (counts : LaneCounts) :
    Serving leaving i { u with config, nextCredit, lastSample, firstSample, link, fault, lastEnded, counts } :=
  h.of_head { h.sensors with } rfl rfl rfl rfl rfl

theorem revive (h : u.Serving leaving i) : (u.revive now).Serving leaving i := by
  refine h.of_head { h.sensors with silence := fun e => ?_ } rfl rfl rfl rfl rfl
  have hoff : u.gate = .off := e
  simp [LaneUnit.revive, hoff, h.sensors.silence hoff]

theorem store (h : u.Serving leaving i) (x : LaneConfig) : (u.store now x).Serving leaving i := by
  refine h.of_head { h.sensors with silence := fun e => ?_ } rfl rfl rfl rfl rfl
  simp [LaneUnit.store, h.sensors.silence e]

theorem watchBeam (h : u.Serving leaving i) : (u.watchBeam now).Serving leaving i := by
  refine h.of_head (h.sensors.watchBeam now) ?_ ?_ ?_ ?_ ?_ <;> unfold LaneUnit.watchBeam <;> split <;> rfl

theorem markEndPassed (h : u.Serving leaving i) : u.markEndPassed.Serving leaving i := by
  have hmap : ∀ r : Option Rotation, (r.map fun x => { x with endPassed := true }).map Rotation.kind =
      r.map Rotation.kind := fun r => by cases r <;> rfl
  refine h.of_head { h.sensors with rotation := ?_, passage := ?_ } rfl rfl rfl rfl (hmap _)
  · simpa [LaneUnit.markEndPassed] using h.sensors.rotation
  · simpa [LaneUnit.markEndPassed] using h.sensors.passage

theorem reclassify (h : u.Serving leaving i) {before : Beam} (hb : u.beam = some before) (after : Beam) :
    (u.reclassify now before after).Serving leaving i := by
  have hkind : ∀ r : Option Rotation, (r.map fun x => { x with beamEntries := satAdd x.beamEntries 1 }).map
      Rotation.kind = r.map Rotation.kind := fun r => by cases r <;> rfl
  have hsensors := h.sensors.reclassify now hb after
  revert hsensors
  unfold LaneUnit.reclassify LaneUnit.watchBeam
  dsimp only
  split_ifs
  · exact fun hs => h.of_head hs rfl rfl rfl rfl (hkind _)
  · exact fun hs => h.of_head hs rfl rfl rfl rfl (hkind _)
  · exact fun hs => h.of_head hs rfl rfl rfl rfl rfl
  · exact fun hs => h.of_head hs rfl rfl rfl rfl rfl

theorem stopBlocked (h : u.Serving leaving i) : Serving leaving i { u with blockedFrom := none } :=
  h.of_head { h.sensors with blocked := by simp } rfl rfl rfl rfl rfl

theorem stopPassage (h : u.Serving leaving i) : Serving leaving i { u with passageFrom := none } :=
  h.of_head { h.sensors with passage := by simp } rfl rfl rfl rfl rfl

theorem silence (h : u.Serving leaving i) : Serving leaving i { u with link := .silent, silenceEnd := none } :=
  h.of_head { h.sensors with silence := fun _ => rfl } rfl rfl rfl rfl rfl

end LaneUnit.Serving

/-! ### Lanes without a credit -/

/-- What holds of a lane unit with an empty queue. -/
theorem LaneUnit.serving_of_nil (hq : u.queue = []) (hs : u.SensorsRun) (hg : u.GateEmpty leaving)
    (ho : u.unlockOut = false) : u.Serving leaving i where
  queue := by rw [hq]; exact queueLaw_nil
  sensors := hs
  head := by rw [hq]; exact ⟨hg, ho⟩

theorem LaneUnit.serving_toOff (hq : u.queue = []) : u.toOff.Serving leaving i :=
  LaneUnit.serving_of_nil hq u.sensorsRun_toOff (.inr (.inl rfl)) rfl

theorem LaneUnit.serving_toSettling (hq : u.queue = []) : (u.toSettling now).Serving leaving i :=
  LaneUnit.serving_of_nil hq (u.sensorsRun_toSettling now) (.inr (.inr (.inl rfl))) rfl

/-- OPEN LANE from OFF starts the silence timer too (R81). -/
theorem LaneUnit.serving_opened (hq : u.queue = []) (silenceEnd : Option Nat) :
    Serving leaving i { u.toSettling now with silenceEnd := silenceEnd } :=
  LaneUnit.serving_of_nil hq { u.sensorsRun_toSettling now with silence := (nomatch ·) } (.inr (.inr (.inl rfl))) rfl

theorem LaneUnit.serving_restart (u : LaneUnit) : u.restart.Serving leaving i :=
  LaneUnit.serving_of_nil rfl (by constructor <;> simp [LaneUnit.restart, LaneUnit.atStart, GateState.reads])
    (.inr (.inl rfl)) rfl

namespace LaneUnit.Serving

/-- A gate state in which no credit is queued. -/
theorem queue_nil (h : u.Serving leaving i)
    (hg : u.gate = .ready ∨ u.gate = .off ∨ u.gate = .settling ∨ u.gate = .fault) : u.queue = [] := by
  cases hq : u.queue with
  | nil => rfl
  | cons c cs =>
    obtain ⟨⟨hgate, -⟩, -⟩ := h.of_cons hq
    rcases hgate with e | ⟨e, -⟩
    · cases hs : c.state <;> simp [e, hs, gateOfCredit] at hg
    · simp [e] at hg

/-- The settle end with the rotor at HOME (R82). -/
theorem settledHome (h : u.Serving leaving i) (hg : u.gate = .settling) : u.settledHome.Serving leaving i := by
  have hq := h.queue_nil (.inr (.inr (.inl hg)))
  obtain ⟨hpassage, hblocked⟩ := h.sensors.timers_none (by rw [hg]; rfl)
  refine LaneUnit.serving_of_nil hq ?_ (.inl rfl) (h.of_nil hq).2
  constructor <;> simp [LaneUnit.settledHome, GateState.reads, hpassage, hblocked, h.sensors.power, hg]

end LaneUnit.Serving

end Sys2Proof.Machine

/-! ## What changes of a lane's credits keep of its laws -/

namespace Sys2Proof.Machine

variable {leaving leaving' : Prop} {i : LaneNo} {u : LaneUnit} {c d : Credit} {cs : List Credit} (now : Nat)

/-! ### Gate states of lanes with and without a credit -/

namespace LaneUnit.Serving

/-- R84 leaves no CLOSING lane with its rotor at HOME and nothing queued. -/
theorem offIfDrained (h : u.Serving leaving i) : u.offIfDrained.Serving leaving' i := by
  unfold LaneUnit.offIfDrained
  split
  · rename_i hdrained
    exact LaneUnit.serving_toOff hdrained.2.1
  · rename_i hstays
    exact h.of_gate h.sensors rfl rfl rfl (fun hq hg _ => .inl fun ht => hstays ⟨hg, hq, ht⟩) fun _ _ _ hr => hr

/-- A lane whose head is not PASSING is in service (R84). -/
theorem inService_of_cons (h : u.Serving leaving i) (hq : u.queue = c :: cs) (hs : c.state ≠ .passing) :
    u.gate.inService = true := by
  obtain ⟨⟨hgate, -⟩, -⟩ := h.of_cons hq
  rcases hgate with e | ⟨-, hp, -⟩
  · rw [e]; exact gateOfCredit_inService _
  · exact absurd hp hs

/-- A lane is UNLOCKED exactly with its head credit (R80). -/
theorem unlocked_iff (h : u.Serving leaving i) (hq : u.queue = c :: cs) :
    u.gate = .unlocked ↔ c.state = .unlocked := (headLaw_iff.mp h.head).1.unlocked_iff hq

theorem head_lawful (h : u.Serving leaving i) (hq : u.queue = c :: cs) : c.Lawful i :=
  h.queue.lawful (hq ▸ List.mem_cons_self)

/-- Out of service a queue holds nothing, or the one PASSING credit of a CLOSING lane. -/
theorem queue_of_not_inService (h : u.Serving leaving i) (hg : u.gate.inService = false) :
    u.queue = [] ∨ ∃ c, u.queue = [c] ∧ c.state = .passing := by
  rcases u.queue_cases with hq | ⟨c, cs, hq⟩
  · exact .inl hq
  · obtain ⟨⟨hgate, -⟩, -⟩ := h.of_cons hq
    rcases hgate with e | ⟨-, hp, rfl⟩
    · rw [e, gateOfCredit_inService] at hg
      cases hg
    · exact .inr ⟨c, hq, hp⟩

end LaneUnit.Serving

/-! ### A gate state that follows the queue (R80) -/

theorem LaneUnit.follow_inService (hg : u.gate.inService = true) :
    u.follow = { u with gate := gateOfQueue u.queue } := if_pos hg

theorem LaneUnit.follow_outOfService (hg : u.gate.inService = false) : u.follow = u := if_neg (by simp [hg])

theorem LaneUnit.serving_follow_nil (hs : u.SensorsRun) (hq : u.queue = []) (hg : u.gate.inService = true)
    (ho : u.unlockOut = false) : u.follow.Serving leaving i := by
  have hsensors := hs.follow
  rw [LaneUnit.follow_inService hg] at hsensors ⊢
  exact LaneUnit.serving_of_nil hq hsensors (.inl (by simp [hq, gateOfQueue])) ho

theorem LaneUnit.serving_follow_cons (hqueue : QueueLaw i u.queue) (hs : u.SensorsRun) (hq : u.queue = c :: cs)
    (hg : u.gate.inService = true) (hr : u.RotorAt c)
    (ho : u.unlockOut = decide (c.state = .unlocked ∨ c.state = .passing)) : u.follow.Serving leaving i := by
  have hsensors := hs.follow
  rw [LaneUnit.follow_inService hg] at hsensors ⊢
  refine ⟨hqueue, hsensors, ?_⟩
  simp only [hq]
  exact ⟨⟨.inl rfl, ho⟩, ⟨hr.unlocked, hr.passing⟩⟩

/-- A change of the head credit that leaves the unlock output as its new state has it. -/
theorem LaneUnit.serving_modHead (hqueue : QueueLaw i u.queue) (hs : u.SensorsRun) (hq : u.queue = c :: cs)
    (hg : u.gate.inService = true) {f : Credit → Credit} (hd : (f c).Lawful i) (hr : u.RotorAt (f c))
    (ho : u.unlockOut = decide ((f c).state = .unlocked ∨ (f c).state = .passing)) :
    (u.modHead f).Serving leaving i := by
  rw [LaneUnit.modHead, hq]
  exact LaneUnit.serving_follow_cons (u := { u with queue := f c :: cs }) (QueueLaw.newHead (hq ▸ hqueue) hd)
    { hs with } rfl hg ⟨hr.unlocked, hr.passing⟩ ho

theorem LaneUnit.startUnlock_cons (hq : u.queue = c :: cs) :
    u.startUnlock now = LaneUnit.follow { u with
      unlockOut := true
      queue := { c with
        state := .unlocked, unlockStart := some now, unlockEnd := some (now + u.config.unlockWidth) } :: cs } := by
  rw [LaneUnit.startUnlock, LaneUnit.modHead, hq]
  cases hg : u.gate.inService <;> simp [LaneUnit.follow, hg]

namespace LaneUnit.Serving

theorem startUnlock (h : u.Serving leaving i) (hdue : u.unlockDue now = true) :
    (u.startUnlock now).Serving leaving i := by
  rcases u.queue_cases with hq | ⟨c, cs, hq⟩
  · simp [LaneUnit.unlockDue, hq] at hdue
  · have hdue' : (c.state = .released ∧ u.tracker = .home) ∧ c.earliestUnlock.any (· ≤ now) = true := by
      simpa [LaneUnit.unlockDue, hq] using hdue
    obtain ⟨⟨hstate, hhome⟩, -⟩ := hdue'
    have hc := h.head_lawful hq
    have hqueue : QueueLaw i (c :: cs) := hq ▸ h.queue
    rw [LaneUnit.startUnlock_cons now hq]
    refine LaneUnit.serving_follow_cons (hqueue.newHead ⟨hc.lane, ?_, ?_, ?_⟩) { h.sensors with } rfl
      (h.inService_of_cons hq (by simp [hstate])) ⟨fun _ => hhome, (nomatch ·)⟩ rfl
    · simp [hc.life, hstate]
    · simp [hc.released, hstate]
    · simp

theorem release (h : u.Serving leaving i) (hhead : u.headHolding = true) (slot : Option Nat) (earliest : Nat) :
    (u.modHead (Credit.release now slot earliest)).Serving leaving i := by
  obtain ⟨c, cs, hq, hstate⟩ := LaneUnit.headHolding_iff.mp hhead
  have hc := h.head_lawful hq
  obtain ⟨⟨-, hout⟩, -⟩ := h.of_cons hq
  refine LaneUnit.serving_modHead h.queue h.sensors hq (h.inService_of_cons hq (by simp [hstate]))
    ⟨hc.lane, ?_, ?_, ?_⟩ ⟨(nomatch ·), (nomatch ·)⟩ ?_
  · simp [Credit.release]
  · simp [Credit.release]
  · simp [Credit.release, hc.unlocked, hstate]
  · simp [Credit.release, hout, hstate]

/-- The leave of an UNLOCKED lane opens the rotation of its head credit (R86). -/
theorem leave_unlocked (h : u.Serving leaving i) (hhome : u.tracker = .home) (hg : u.gate = .unlocked) :
    (u.leave now).Serving leaving' i := by
  have hsensors := h.sensors.away now (h.sensors.reads_of_home hhome) (u.leaveRecord now)
  rw [LaneUnit.leave_home now hhome, if_pos hg]
  rcases u.queue_cases with hq | ⟨c, cs, hq⟩
  · obtain ⟨hgate, -⟩ := h.of_nil hq
    simp [hg, LaneUnit.GateEmpty] at hgate
  · have hstate : c.state = .unlocked := (h.unlocked_iff hq).mp hg
    have hc := h.head_lawful hq
    obtain ⟨⟨-, hout⟩, -⟩ := h.of_cons hq
    have hkind : (u.leaveRecord now).kind = .credited c.number := by simp [LaneUnit.leaveRecord, hg, hq]
    refine LaneUnit.serving_modHead (u := u.away now (u.leaveRecord now)) h.queue hsensors hq
      (h.inService_of_cons hq (by simp [hstate])) ⟨hc.lane, ?_, ?_, ?_⟩
      ⟨(nomatch ·), fun _ => ⟨rfl, congrArg some hkind⟩⟩ ?_
    · simp [hc.life, hstate]
    · simp [hc.released, hstate]
    · simp [hc.unlocked, hstate]
    · simp [LaneUnit.away, hout, hstate]

/-- A CLOSING lane whose leave was awaited has its rotor away after it. -/
theorem leave (h : u.Serving leaving i) : (u.leave now).Serving leaving' i := by
  by_cases hhome : u.tracker = .home
  · by_cases hg : u.gate = .unlocked
    · exact h.leave_unlocked now hhome hg
    · rw [LaneUnit.leave_home now hhome, if_neg hg]
      refine h.of_gate (h.sensors.away now (h.sensors.reads_of_home hhome) _) rfl rfl rfl
        (fun _ _ _ => .inl (by simp [LaneUnit.away])) fun c cs hq hr =>
        ⟨fun e => absurd ((h.unlocked_iff hq).mpr e) hg, fun e => ?_⟩
      simpa [hhome] using (hr.passing e).1
  · rw [LaneUnit.leave_away now hhome]
    exact h.of_gate h.sensors rfl rfl rfl (fun _ _ _ => .inl hhome) fun _ _ _ hr => hr

/-- A new credit at the tail (R66, R69). -/
theorem enqueue (h : u.Serving leaving i) (hg : u.gate.inService = true) (hroom : u.queue.length < 2)
    (hc : c.Lawful i) (hs : c.state = .holding) : (u.enqueue c).Serving leaving i := by
  have hqueue := h.queue.append hroom hc hs
  unfold LaneUnit.enqueue
  rcases u.queue_cases with hq | ⟨d, ds, hq⟩
  · refine LaneUnit.serving_follow_cons (c := c) (cs := []) hqueue { h.sensors with } (by simp [hq]) hg
      ⟨by simp [hs], by simp [hs]⟩ ?_
    simp [(h.of_nil hq).2, hs]
  · obtain ⟨⟨-, hout⟩, hrotor⟩ := h.of_cons hq
    exact LaneUnit.serving_follow_cons hqueue { h.sensors with } (by simp [hq]; rfl) hg
      ⟨hrotor.unlocked, hrotor.passing⟩ hout

/-- A change of every credit that keeps its state and number. -/
theorem mapCredits (h : u.Serving leaving i) {f : Credit → Credit} (hf : ∀ c, c.Lawful i → (f c).Lawful i)
    (hs : ∀ c, (f c).state = c.state) (hn : ∀ c, (f c).number = c.number) :
    Serving leaving i { u with queue := u.queue.map f } where
  queue := h.queue.map (fun c _ => hf c) fun c _ e => (hs c).trans e
  sensors := { h.sensors with }
  head := by
    rcases u.queue_cases with hq | ⟨c, cs, hq⟩
    · obtain ⟨hgate, hout⟩ := h.of_nil hq
      simp only [hq, List.map_nil]
      exact ⟨hgate.of_gate rfl fun _ => id, hout⟩
    · obtain ⟨⟨hgate, hout⟩, ⟨hunlocked, hpassing⟩⟩ := h.of_cons hq
      simp only [hq, List.map_cons]
      refine ⟨⟨?_, ?_⟩, ⟨?_, ?_⟩⟩ <;> simp only [hs, hn, List.map_eq_nil_iff]
      · exact hgate
      · exact hout
      · exact hunlocked
      · exact hpassing

end LaneUnit.Serving

/-! ### A lift stop (R128) -/

theorem Credit.toHolding_of_ne (h : c.state ≠ .released) (t : Nat) : c.toHolding t = c := if_neg h

theorem Credit.Lawful.toHolding (h : c.Lawful i) (t : Nat) : (c.toHolding t).Lawful i := by
  unfold Credit.toHolding
  split
  · rename_i hs
    exact ⟨h.lane, by simp, by simp, by simp [h.unlocked, hs]⟩
  · exact h

theorem LaneUnit.Serving.liftStop (h : u.Serving leaving i) : (u.liftStop now).Serving leaving i := by
  have hqueue : QueueLaw i (u.queue.map (Credit.toHolding (now + u.config.creditLife * 1000))) :=
    h.queue.map (fun _ _ hc => hc.toHolding _) fun c _ e => by rw [Credit.toHolding_of_ne (by simp [e]), e]
  unfold LaneUnit.liftStop
  cases hg : u.gate.inService with
  | false =>
    have hsame : u.queue.map (Credit.toHolding (now + u.config.creditLife * 1000)) = u.queue := by
      rcases h.queue_of_not_inService hg with hq | ⟨c, hq, hp⟩
      · simp [hq]
      · simp [hq, Credit.toHolding_of_ne (c := c) (by simp [hp])]
    rw [hsame, LaneUnit.follow_outOfService hg]
    exact h
  | true =>
    rcases u.queue_cases with hq | ⟨c, cs, hq⟩
    · exact LaneUnit.serving_follow_nil { h.sensors with } (by simp [hq]) hg (h.of_nil hq).2
    · obtain ⟨⟨-, hout⟩, hrotor⟩ := h.of_cons hq
      refine LaneUnit.serving_follow_cons hqueue { h.sensors with } (by rw [hq, List.map_cons]) hg ?_ ?_
      · by_cases hs : c.state = .released
        · constructor <;> simp [Credit.toHolding, hs]
        · rw [Credit.toHolding_of_ne hs]
          exact ⟨hrotor.unlocked, hrotor.passing⟩
      · by_cases hs : c.state = .released
        · simp [Credit.toHolding, hs, hout]
        · rw [Credit.toHolding_of_ne hs]
          exact hout

/-! ### The end of a credit (R103) -/

/-- The end of the head, whatever its rotor does: at its MID and at a return it is elsewhere than `RotorAt` has it. -/
theorem LaneUnit.serving_endedHead (hqueue : QueueLaw i u.queue) (hs : u.SensorsRun) (hq : u.queue = c :: cs)
    (hshows : u.Shows c cs) (o : CreditOutcome) : (u.ended 0 c o).Serving leaving i := by
  have hrest : u.queue.eraseIdx 0 = cs := by rw [hq]; rfl
  have hqueue' : QueueLaw i (u.queue.eraseIdx 0) := hqueue.sublist (List.eraseIdx_sublist _ _)
  have hout : (u.dequeue 0 c).unlockOut = false := by
    simp [LaneUnit.dequeue, hshows.output]
  refine LaneUnit.Serving.offIfDrained (leaving := True) ?_
  rcases hshows.gate with hg | ⟨hg, -, hlast⟩
  · have hservice : u.gate.inService = true := by rw [hg]; exact gateOfCredit_inService _
    cases cs with
    | nil => exact LaneUnit.serving_follow_nil { hs with } hrest hservice hout
    | cons d ds =>
      have hholding : d.state = .holding := QueueLaw.second (hq ▸ hqueue)
      refine LaneUnit.serving_follow_cons hqueue' { hs with } hrest hservice ⟨?_, ?_⟩ ?_
      · simp [hholding]
      · simp [hholding]
      · simp [hout, hholding]
  · rw [LaneUnit.follow_outOfService (by simp [LaneUnit.dequeue, hg, GateState.inService])]
    exact LaneUnit.serving_of_nil (hrest.trans hlast) { hs with } (.inr (.inr (.inr (.inr ⟨hg, .inr trivial⟩)))) hout

/-- The end of the credit behind the head, which is HOLDING (R69). -/
theorem LaneUnit.Serving.endedBehind (h : u.Serving leaving i) {k : Nat} (hc : u.queue[k + 1]? = some c)
    (o : CreditOutcome) : (u.ended (k + 1) c o).Serving leaving i := by
  obtain ⟨d, ds, hq⟩ : ∃ d ds, u.queue = d :: ds :=
    List.exists_cons_of_ne_nil fun e => by simp [e] at hc
  have hmem : c ∈ ds := List.mem_of_getElem? (i := k) (by simpa [hq] using hc)
  have hholding : c.state = .holding := h.queue.behind c (by simpa [hq] using hmem)
  obtain ⟨⟨hgate, hout⟩, hrotor⟩ := h.of_cons hq
  have hservice : u.gate.inService = true := by
    rcases hgate with e | ⟨-, -, rfl⟩
    · rw [e]; exact gateOfCredit_inService _
    · cases hmem
  refine LaneUnit.Serving.offIfDrained (leaving := leaving) ?_
  refine LaneUnit.serving_follow_cons (c := d) (cs := ds.eraseIdx k)
    (h.queue.sublist (List.eraseIdx_sublist _ (k + 1))) { h.sensors with } ?_ hservice
    ⟨hrotor.unlocked, hrotor.passing⟩ ?_
  · simp [LaneUnit.dequeue, hq]
  · simp [LaneUnit.dequeue, hholding, hout]

theorem LaneUnit.Serving.ended (h : u.Serving leaving i) {place : Nat} (hc : u.queue[place]? = some c)
    (o : CreditOutcome) : (u.ended place c o).Serving leaving i := by
  cases place with
  | zero =>
    obtain ⟨cs, hq⟩ := List.head?_eq_some_iff.mp (List.head?_eq_getElem?.trans hc)
    exact LaneUnit.serving_endedHead h.queue h.sensors hq (h.of_cons hq).1 o
  | succ k => exact h.endedBehind hc o

/-! ### OPEN LANE and CLOSE LANE (R81, R83) -/

/-- OPEN LANE takes a CLOSING lane back into service (R81). -/
theorem LaneUnit.Serving.reopen (h : u.Serving leaving i) (hg : u.gate = .closing) :
    Serving leaving i { u with gate := gateOfQueue u.queue } := by
  have hsensors : SensorsRun { u with gate := gateOfQueue u.queue } :=
    h.sensors.withGate (by rw [hg]; rfl) (GateState.reads_of_inService (gateOfQueue_inService _))
  rcases u.queue_cases with hq | ⟨c, cs, hq⟩
  · exact LaneUnit.serving_of_nil hq hsensors (.inl (by simp [hq, gateOfQueue])) (h.of_nil hq).2
  · obtain ⟨⟨-, hout⟩, hrotor⟩ := h.of_cons hq
    refine ⟨h.queue, hsensors, ?_⟩
    simp only [hq]
    exact ⟨⟨.inl rfl, hout⟩, ⟨hrotor.unlocked, hrotor.passing⟩⟩

/-- Step 4 of R83, once every credit that is not PASSING has been withdrawn; step 5 is `offIfDrained`. -/
theorem LaneUnit.Serving.close (h : u.Serving leaving i) (hg : u.gate.inService = true)
    (hp : ∀ c ∈ u.queue, c.state = .passing) : Serving True i { u with gate := .closing } := by
  have hsensors : SensorsRun { u with gate := .closing } :=
    h.sensors.withGate (GateState.reads_of_inService hg) rfl
  rcases u.queue_cases with hq | ⟨c, cs, hq⟩
  · exact LaneUnit.serving_of_nil hq hsensors (.inr (.inr (.inr (.inr ⟨rfl, .inr trivial⟩)))) (h.of_nil hq).2
  · obtain ⟨⟨-, hout⟩, hrotor⟩ := h.of_cons hq
    have hlast : cs = [] := by
      cases cs with
      | nil => rfl
      | cons d ds =>
        have hholding : d.state = .holding := QueueLaw.second (hq ▸ h.queue)
        have hpassing := hp d (by simp [hq])
        simp [hholding] at hpassing
    refine ⟨h.queue, hsensors, ?_⟩
    simp only [hq]
    exact ⟨⟨.inr ⟨rfl, hp c (by simp [hq]), hlast⟩, hout⟩, ⟨hrotor.unlocked, hrotor.passing⟩⟩

/-! ### The entry to FAULT (R94) -/

/-- A lane in FAULT whose credits are still being withdrawn. -/
structure LaneUnit.Faulting (i : LaneNo) (u : LaneUnit) : Prop where
  queue : QueueLaw i u.queue
  sensors : u.SensorsRun
  gate : u.gate = .fault

theorem LaneUnit.Serving.faulting (h : u.Serving leaving i) (hr : u.gate.reads = true) :
    Faulting i { u with gate := .fault } := ⟨h.queue, h.sensors.withGate hr rfl, rfl⟩

/-- The settle end with the rotor away goes to FAULT (R82). -/
theorem LaneUnit.Serving.faulting_settledAway (h : u.Serving leaving i) (hg : u.gate = .settling) :
    Faulting i { u.settledAway now with gate := .fault } := by
  obtain ⟨-, hblocked⟩ := h.sensors.timers_none (by rw [hg]; rfl)
  refine ⟨h.queue, ?_, rfl⟩
  constructor <;> simp [LaneUnit.settledAway, GateState.reads, hblocked, h.sensors.power, hg]

theorem LaneUnit.Faulting.ended (h : u.Faulting i) (place : Nat) (c : Credit) (o : CreditOutcome) :
    (u.ended place c o).Faulting i := by
  have hstays : u.ended place c o =
      { u.dequeue place c with counts := u.counts.countOutcome o, lastEnded := some (c.number, o) } := by
    rw [LaneUnit.ended, LaneUnit.follow_outOfService (by simp [LaneUnit.dequeue, h.gate, GateState.inService]),
      LaneUnit.offIfDrained, if_neg (by simp [LaneUnit.dequeue, h.gate])]
  rw [hstays]
  exact ⟨h.queue.sublist (List.eraseIdx_sublist _ _), { h.sensors with }, h.gate⟩

theorem LaneUnit.Faulting.entered (h : u.Faulting i) (hq : u.queue = []) (r : Option FaultRecord) :
    Serving leaving i { u with unlockOut := false, fault := r } :=
  LaneUnit.serving_of_nil hq { h.sensors with } (.inr (.inr (.inr (.inl h.gate)))) rfl

end Sys2Proof.Machine

/-! ## What operations on the state keep of the laws of the lane units

`Each s P t` says that the part in the state `t` runs, with the commands of `s` waiting and the property `P` in each
lane. `Serves s t` is this with the laws; `ServesBut s i Q t` has `Q` for the event's own lane between its effects. -/

namespace Sys2Proof.Machine

/-- The leave of a lane's rotor is the next command waiting (R101; log 30). -/
def State.leaves (s : State) (i : LaneNo) : Prop := s.pending.head? = some (.rotorLeave i)

/-- The part runs, the commands of `s` wait, and each lane unit has a property. -/
structure Each (s : State) (P : LaneNo → LaneUnit → Prop) (t : State) : Prop where
  run : t.run = .running
  pending : t.pending = s.pending
  lane : ∀ i, P i (t.lane i)

/-- The laws of the lane units while the commands of a state wait. -/
def State.laws (s : State) (i : LaneNo) (u : LaneUnit) : Prop := u.Serving (s.leaves i) i

/-- Each lane unit has its laws. -/
abbrev Serves (s t : State) : Prop := Each s s.laws t

/-- Each lane unit but one has its laws, and that one a property of its own. -/
abbrev ServesBut (s : State) (i : LaneNo) (Q : LaneUnit → Prop) (t : State) : Prop :=
  Each s (Function.update s.laws i Q) t

/-! ### Operations that leave the lanes alone -/

namespace Each
variable {s t r : State} {P : LaneNo → LaneUnit → Prop}

theorem congr (h : Each s P t) (hr : r.run = t.run) (hp : r.pending = t.pending) (hl : r.lanes = t.lanes) :
    Each s P r where
  run := hr.trans h.run
  pending := hp.trans h.pending
  lane := fun i => by rw [State.lane, hl]; exact h.lane i

theorem waitUntil (h : Each s P t) (n : Nat) : Each s P (t.waitUntil n) := h.congr rfl rfl rfl
theorem append (h : Each s P t) (b : JournalBody) : Each s P (t.append b) := h.congr rfl rfl rfl
theorem modPass (h : Each s P t) (n : Nat) (f : Pass → Pass) : Each s P (t.modPass n f) := h.congr rfl rfl rfl
theorem modLink (h : Each s P t) (l : LinkNo) (f : Endpoint → Endpoint) : Each s P (t.modLink l f) :=
  h.congr rfl rfl rfl
theorem raise (h : Each s P t) (p : EventPair) : Each s P (t.raise p) :=
  h.congr (t.raise_run p) (t.raise_pending p) (t.raise_lanes p)
theorem raiseAt (h : Each s P t) (k : LaneEvent) (i : LaneNo) : Each s P (t.raiseAt k i) := h.raise _
theorem reply (h : Each s P t) (l : LinkNo) (code tag : Nat) (a : Answer) : Each s P (t.reply l code tag a) :=
  h.congr (t.reply_run l code tag a) (t.reply_pending l code tag a) (t.reply_lanes l code tag a)
theorem idleReceiver (h : Each s P t) (l : LinkNo) : Each s P (t.idleReceiver l) := h.modLink l _

theorem withPacer (h : Each s P t) (p : Pacer) : Each s P { t with pacer := p } := h.congr rfl rfl rfl
theorem withOffice (h : Each s P t) (o : OfficePort) (n : Nat) : Each s P { t with office := o, freeCount := n } :=
  h.congr rfl rfl rfl
theorem withTable (h : Each s P t) (ps : List Pass) (free : Nat) : Each s P { t with passes := ps, free := free } :=
  h.congr rfl rfl rfl

theorem withDay (h : Each s P t) (d : DayState) (n : Nat) : Each s P { t with day := d, lastOpened := n } :=
  h.congr rfl rfl rfl

theorem closeIfDrained (h : Each s P t) : Each s P t.closeIfDrained := by
  have hends := Ends.closeIfDrained t
  exact ⟨hends.run.trans h.run, hends.pending.trans h.pending, fun i => by
    rw [State.closeIfDrained_lane]; exact h.lane i⟩

/-! ### Updates of one lane -/

/-- A state that differs in one lane, which has another property. -/
theorem ofLane (h : Each s P t) {P' : LaneNo → LaneUnit → Prop} {i : LaneNo} {v : LaneUnit} (hr : r.run = t.run)
    (hp : r.pending = t.pending) (hl : ∀ j, r.lane j = if j = i then v else t.lane j) (hv : P' i v)
    (helse : ∀ j, j ≠ i → ∀ u, P j u → P' j u) : Each s P' r where
  run := hr.trans h.run
  pending := hp.trans h.pending
  lane := fun j => by
    rw [hl]
    split
    · subst_vars; exact hv
    · exact helse j ‹_› _ (h.lane j)

/-- An update of one lane, from what it is. -/
theorem modLaneAt (h : Each s P t) {i : LaneNo} {f : LaneUnit → LaneUnit} (hf : P i (f (t.lane i))) :
    Each s P (t.modLane i f) :=
  h.ofLane rfl rfl (fun j => t.modLane_lane i j f) hf fun _ _ _ => id

theorem modLane (h : Each s P t) (i : LaneNo) {f : LaneUnit → LaneUnit} (hf : ∀ u, P i u → P i (f u)) :
    Each s P (t.modLane i f) := h.modLaneAt (hf _ (h.lane i))

/-- An update of every lane. -/
theorem mapLanes (h : Each s P t) {f : LaneUnit → LaneUnit} (hf : ∀ i u, P i u → P i (f u)) :
    Each s P { t with lanes := t.lanes.map f } where
  run := h.run
  pending := h.pending
  lane := fun i => by
    rw [State.lane, Six.get_map]
    exact hf i _ (h.lane i)

end Each

theorem State.lane_eq_ite (t : State) (i j : LaneNo) : t.lane j = if j = i then t.lane i else t.lane j := by
  split
  · subst_vars; rfl
  · rfl

section Focus
variable {s t : State} {i : LaneNo} {Q R : LaneUnit → Prop}

theorem Serves.focus (h : Serves s t) (hQ : Q (t.lane i)) : ServesBut s i Q t :=
  h.ofLane rfl rfl (t.lane_eq_ite i) ((Function.update_self i Q s.laws).symm ▸ hQ) fun j hj u hu => by
    rwa [Function.update_of_ne hj]

theorem ServesBut.here (h : ServesBut s i Q t) : Q (t.lane i) := by
  have hlane := h.lane i
  rwa [Function.update_self] at hlane

/-- The event's own lane, from one property to the next. -/
theorem ServesBut.ofLane (h : ServesBut s i Q t) {r : State} {v : LaneUnit} (hr : r.run = t.run)
    (hp : r.pending = t.pending) (hl : ∀ j, r.lane j = if j = i then v else t.lane j) (hv : R v) :
    ServesBut s i R r :=
  Each.ofLane h hr hp hl ((Function.update_self i R s.laws).symm ▸ hv) fun j hj u hu => by
    rw [Function.update_of_ne hj] at hu ⊢
    exact hu

theorem ServesBut.imp (h : ServesBut s i Q t) (hR : R (t.lane i)) : ServesBut s i R t :=
  h.ofLane rfl rfl (t.lane_eq_ite i) hR

theorem ServesBut.modLane (h : ServesBut s i Q t) {f : LaneUnit → LaneUnit} (hf : ∀ u, Q u → R (f u)) :
    ServesBut s i R (t.modLane i f) := h.ofLane rfl rfl (fun j => t.modLane_lane i j f) (hf _ h.here)

theorem ServesBut.serves (h : ServesBut s i Q t) (hQ : ∀ u, Q u → u.Serving (s.leaves i) i) : Serves s t :=
  Each.ofLane h (i := i) (v := t.lane i) rfl rfl (t.lane_eq_ite i) (hQ _ h.here) fun j hj u hu => by
    rwa [Function.update_of_ne hj] at hu

end Focus

section Operations
variable {s t : State} {i : LaneNo} (h : Serves s t)
include h

theorem Serves.waitUntil (n : Nat) : Serves s (t.waitUntil n) := Each.waitUntil h n

theorem Serves.taken (l : LinkNo) : Serves s (t.taken l) := by
  unfold State.taken State.reviveLink
  split
  · exact (h.idleReceiver l).modLane _ fun _ hu => hu.revive _
  · exact h.idleReceiver l

theorem Serves.answered (l : LinkNo) (code tag : Nat) (a : Answer) : Serves s (t.answered l code tag a) :=
  (h.taken l).reply l code tag a

/-! ### Unlock starts and releases -/

theorem Serves.tryUnlock (i : LaneNo) : Serves s (t.tryUnlock i) := by
  unfold State.tryUnlock
  split
  · exact h.modLaneAt ((h.lane i).startUnlock _ ‹_›)
  · exact h

theorem Serves.freeRelease (i : LaneNo) : Serves s (t.freeRelease i) := by
  unfold State.freeRelease
  split
  · rename_i hrelease
    have hlane : Serves s (t.modLane i fun u => u.modHead (Credit.release t.clock none t.clock)) :=
      h.modLaneAt ((h.lane i).release _ hrelease.1 _ _)
    exact hlane.tryUnlock i
  · exact h

theorem Serves.freeReleaseAll : Serves s t.freeReleaseAll := by
  have key : ∀ (is : List LaneNo) (r : State), Serves s r → Serves s (is.foldl State.freeRelease r) := by
    intro is
    induction is with
    | nil => exact fun _ hr => hr
    | cons i is ih => exact fun r hr => ih _ (hr.freeRelease i)
  exact key _ t h

theorem Serves.releaseInto {k : Slot} (hi : t.nextLane = some i) : Serves s (t.releaseInto k i) := by
  have hlane : Serves s (t.modLane i fun u =>
      u.modHead (Credit.release t.clock (some k.number) (max t.clock k.earliestUnlock))) :=
    h.modLaneAt ((h.lane i).release _ (State.nextLane_holding hi) _ _)
  exact Serves.tryUnlock (hlane.withPacer _) i

theorem Serves.arbitrate : Serves s t.arbitrate := by
  have key : ∀ (n : Nat) (r : State), Serves s r → Serves s (arbitrateUpTo n r) := by
    intro n
    induction n with
    | zero => exact fun _ hr => hr
    | succ n ih =>
      intro r hr
      unfold arbitrateUpTo
      split
      · exact ih _ (hr.releaseInto ‹_›)
      · exact hr
  exact key _ t h

theorem Serves.offer (i : LaneNo) : Serves s (t.offer i) := by
  unfold State.offer
  split
  · split
    · exact h.arbitrate
    · exact h.freeRelease i
  · exact h

theorem Serves.homeRelease (i : LaneNo) : Serves s (t.homeRelease i) := by
  have hunlock := h.tryUnlock i
  unfold State.homeRelease
  dsimp only
  split
  · exact hunlock.freeRelease i
  · exact hunlock

end Operations

/-! ### The end of a credit and withdrawals (R103, R116) -/

section Ends
variable {s t : State} {i : LaneNo} {Q R : LaneUnit → Prop} {c : Credit} {place : Nat} {o : CreditOutcome}

theorem ServesBut.endCredit (h : ServesBut s i Q t) (hc : (t.lane i).queue[place]? = some c)
    (hR : R ((t.lane i).ended place c o)) : ServesBut s i R (t.endCredit i place o) :=
  have hends := Ends.endCredit t i place o
  h.ofLane hends.run hends.pending (State.endCredit_lane hc) hR

theorem Serves.endCredit (h : Serves s t) (i : LaneNo) (place : Nat) (o : CreditOutcome) :
    Serves s (t.endCredit i place o) := by
  cases hc : (t.lane i).queue[place]? with
  | none => rw [State.endCredit_none hc]; exact h
  | some c =>
    have hends := Ends.endCredit t i place o
    exact h.ofLane hends.run hends.pending (State.endCredit_lane hc) ((h.lane i).ended hc o) fun _ _ _ => id

theorem Serves.endHead (h : Serves s t) (i : LaneNo) (o : CreditOutcome) : Serves s (t.endHead i o) :=
  (h.endCredit i 0 o).offer i

/-- The end of a head whose rotor is elsewhere than `RotorAt` has it. -/
theorem ServesBut.endHead (h : ServesBut s i Q t) {cs : List Credit} (hqueue : QueueLaw i (t.lane i).queue)
    (hs : (t.lane i).SensorsRun) (hq : (t.lane i).queue = c :: cs) (hshows : (t.lane i).Shows c cs)
    (o : CreditOutcome) : Serves s (t.endHead i o) := by
  have hget : (t.lane i).queue[0]? = some c := by rw [hq]; rfl
  have hended : (((t.lane i).ended 0 c o)).Serving (s.leaves i) i := LaneUnit.serving_endedHead hqueue hs hq hshows o
  exact ((h.endCredit hget hended).serves fun _ => id).offer i

/-- The withdrawals of one event keep a property of their lane that each of them keeps, and leave the other credits. -/
theorem ServesBut.withdraw (h : ServesBut s i Q t) {cause : Cause} {which : Credit → Bool}
    (hQ : ∀ u place c, Q u → u.queue[place]? = some c → Q (u.ended place c (.withdrawn cause))) :
    ServesBut s i (fun u => Q u ∧ ∀ c ∈ u.queue, which c = false) (t.withdraw i cause which) := by
  have key : ∀ (q kept : List Credit) (r : State), ServesBut s i Q r → (r.lane i).queue = kept ++ q →
      ServesBut s i Q (withdrawFrom i cause which q kept.length r) ∧
        ((withdrawFrom i cause which q kept.length r).lane i).queue = kept ++ q.filter fun c => !which c := by
    intro q
    induction q with
    | nil => exact fun kept r hr hq => ⟨hr, hq⟩
    | cons c cs ih =>
      intro kept r hr hq
      unfold withdrawFrom
      split
      · rename_i hc
        have hget : (r.lane i).queue[kept.length]? = some c := by simp [hq]
        have hrest : ((r.endCredit i kept.length (.withdrawn cause)).lane i).queue = kept ++ cs := by
          rw [State.endCredit_lane hget, if_pos rfl, LaneUnit.ended_queue, hq,
            List.eraseIdx_append_of_length_le (Nat.le_refl _), Nat.sub_self]
          rfl
        rw [List.filter_cons_of_neg (by simp [hc])]
        exact ih kept _ (hr.endCredit hget (hQ _ _ _ hr.here hget)) hrest
      · rename_i hc
        have hstep := ih (kept ++ [c]) r hr (by simp [hq])
        rw [List.length_append, List.length_singleton, List.append_assoc] at hstep
        rw [List.filter_cons_of_pos (by simpa using hc)]
        exact hstep
  obtain ⟨hkept, hqueue⟩ := key _ [] t h rfl
  have hleft : ((t.withdraw i cause which).lane i).queue = (t.lane i).queue.filter fun c => !which c := hqueue
  refine ServesBut.imp hkept ⟨hkept.here, fun c hc => ?_⟩
  rw [hleft] at hc
  simpa using (List.mem_filter.mp hc).2

theorem Serves.withdraw (h : Serves s t) (i : LaneNo) (cause : Cause) (which : Credit → Bool) :
    Serves s (t.withdraw i cause which) :=
  (ServesBut.withdraw (h.focus (Q := s.laws i) (h.lane i)) fun _ _ _ hu hc => hu.ended hc _).serves fun _ hu => hu.1

theorem Serves.withdrawAll (h : Serves s t) : Serves s t.withdrawAll := by
  have key : ∀ (is : List LaneNo) (r : State), Serves s r →
      Serves s (is.foldl (fun r i => r.withdraw i .dayClosing Credit.notUnlocked) r) := by
    intro is
    induction is with
    | nil => exact fun _ hr => hr
    | cons i is ih => exact fun r hr => ih _ (hr.withdraw i _ _)
  exact key _ t h

/-- CLOSE LANE (R83): a lane that stays CLOSING without a credit and with its rotor at HOME is one whose leave waits. -/
theorem Serves.closeInService (h : Serves s t) (hg : (t.lane i).gate.inService = true) :
    Serves s (t.closeInService i) := by
  have hwithdrawn := ServesBut.withdraw (cause := .laneClosed) (which := Credit.notPassing)
    (h.focus (i := i) (Q := fun u => u.Serving (s.leaves i) i ∧ u.gate.inService = true) ⟨h.lane i, hg⟩)
    fun u place c ⟨hu, hservice⟩ hc => ⟨hu.ended hc _, by
      rw [LaneUnit.ended_gate _ _ _ hservice]; exact gateOfQueue_inService _⟩
  unfold State.closeInService
  refine (ServesBut.modLane hwithdrawn (R := LaneUnit.Serving (s.leaves i) i) ?_).serves fun _ => id
  rintro u ⟨⟨hu, hservice⟩, hleft⟩
  have hclosed := hu.close hservice fun c hc => by simpa [Credit.notPassing] using hleft c hc
  dsimp only
  split
  · rename_i hwaits
    refine hclosed.imp fun _ => ?_
    simp only [State.leaveWaits, Bool.and_eq_true, decide_eq_true_eq] at hwaits
    exact (congrArg List.head? h.pending.symm).trans hwaits.2
  · exact hclosed.offIfDrained

/-! ### Faults (R94, R95) -/

/-- The entry to FAULT, from a lane that is put into it. -/
theorem ServesBut.enterFault (h : ServesBut s i Q t) (hQ : ∀ u, Q u → LaneUnit.Faulting i { u with gate := .fault })
    (cause : FaultCause) : Serves s (t.enterFault i cause) := by
  have hentered := h.modLane (R := LaneUnit.Faulting i) hQ
  have hwithdrawn := ServesBut.withdraw (cause := .laneFault) (which := fun _ => true) hentered
    fun u place c hu _ => hu.ended place c _
  unfold State.enterFault
  refine Each.raiseAt (Each.append (ServesBut.serves (ServesBut.modLane hwithdrawn
    (R := LaneUnit.Serving (s.leaves i) i) fun u ⟨hu, hnone⟩ => ?_) fun _ => id) _) _ _
  have hq : u.queue = [] := List.eq_nil_iff_forall_not_mem.mpr fun c hc => by simpa using hnone c hc
  exact hu.entered hq _

theorem Serves.laterCause (h : Serves s t) (i : LaneNo) (cause : FaultCause) : Serves s (t.laterCause i cause) := by
  unfold State.laterCause
  split
  · exact h
  · exact Each.raiseAt (Each.append (h.modLane i fun _ hu => LaneUnit.Serving.quiet hu ..) _) _ _

theorem Serves.detect (h : Serves s t) (hr : (t.lane i).gate.reads = true) (cause : FaultCause) :
    Serves s (t.detect i cause) := by
  unfold State.detect
  split
  · exact h.laterCause i cause
  · exact ServesBut.enterFault (h.focus (Q := fun u => u.Serving (s.leaves i) i ∧ u.gate.reads = true) ⟨h.lane i, hr⟩)
      (fun _ ⟨hu, hreads⟩ => hu.faulting hreads) cause

end Ends

end Sys2Proof.Machine

/-! ## What the events of a lane keep of its laws -/

namespace Sys2Proof.Machine

variable {s t : State} {i : LaneNo} {Q : LaneUnit → Prop}

/-! ### MID (R87, R105) -/

theorem LaneUnit.passingHead_iff {u : LaneUnit} : u.passingHead = true ↔
    ∃ c cs, u.queue = c :: cs ∧ c.state = .passing ∧ u.rotation.map Rotation.kind = some (.credited c.number) := by
  unfold LaneUnit.passingHead
  split
  · rename_i r c cs hr hq
    simp [hr, hq, and_comm]
  · rename_i hnone
    refine ⟨(nomatch ·), fun ⟨c, cs, hq, _, hr⟩ => ?_⟩
    obtain ⟨r, hr, -⟩ := Option.map_eq_some_iff.mp hr
    exact absurd hq (hnone r c cs hr)

/-- A PASSING head has the rotation of the rotor's way out (R87). -/
theorem LaneUnit.Serving.passingHead {leaving : Prop} {u : LaneUnit} (h : u.Serving leaving i) {c : Credit}
    {cs : List Credit} (hq : u.queue = c :: cs) (hs : c.state = .passing) :
    u.tracker = .awayFirst ∧ u.passingHead = true := by
  obtain ⟨haway, hkind⟩ := (h.of_cons hq).2.passing hs
  exact ⟨haway, LaneUnit.passingHead_iff.mpr ⟨c, cs, hq, hs, hkind⟩⟩

/-- A MID that commits no credit. -/
theorem LaneUnit.Serving.markMid {leaving : Prop} {u : LaneUnit} (h : u.Serving leaving i)
    (ht : u.tracker = .awayFirst) (hp : u.passingHead = false) (now : Nat) : (u.markMid now).Serving leaving i :=
  h.of_gate (h.sensors.markMid now ht) rfl rfl rfl (fun _ _ _ => .inl (by simp [LaneUnit.markMid]))
    fun c cs hq hr => ⟨fun e => by simpa [ht] using hr.unlocked e, fun e => by simpa [hp] using (h.passingHead hq e).2⟩

theorem serves_mid (h : Serves s s) (i : LaneNo) : Gives (Serves s) (execMid i s) := by
  refine gives_whenRunning h ?_
  dsimp only
  split_ifs with ht hp
  · obtain ⟨c, cs, hq, -⟩ := LaneUnit.passingHead_iff.mp hp
    have hlane : (s.modLane i (LaneUnit.markMid s.clock)).lane i = (s.lane i).markMid s.clock := by simp
    have hshows := ((h.lane i).of_cons hq).1
    have hmarked : ServesBut s i (fun _ => True) (s.modLane i (LaneUnit.markMid s.clock)) :=
      (h.focus (Q := fun _ => True) trivial).modLane fun _ => id
    refine ServesBut.endHead (c := c) (cs := cs) hmarked ?_ ?_ ?_ ?_ _ <;> rw [hlane]
    · exact (h.lane i).queue
    · exact (h.lane i).sensors.markMid _ ht
    · exact hq
    · exact ⟨hshows.gate, hshows.output⟩
  · exact h.modLaneAt ((h.lane i).markMid ht (by simpa using hp) _)
  · exact h

/-! ### Return to HOME (R88, R109 to R112) -/

section Counts
variable (h : ServesBut s i Q t) (hQ : ∀ u counts, Q u → Q { u with counts := counts })
include h hQ

theorem ServesBut.countUntagged (cause : UntaggedCause) : ServesBut s i Q (t.countUntagged i cause) :=
  Each.raiseAt (Each.append (h.modLane fun u => hQ u _) _) _ _

theorem ServesBut.countBackout (r : Rotation) : ServesBut s i Q (t.countBackout i r) :=
  Each.raiseAt (Each.append (h.modLane fun u => hQ u _) _) _ _

theorem ServesBut.countRotation (left : Tracker) (r : Rotation) : ServesBut s i Q (t.countRotation i left r) := by
  unfold State.countRotation
  dsimp only
  split_ifs
  · exact h.countBackout hQ r
  · exact h.countUntagged hQ _
  · exact ServesBut.countUntagged (h.countUntagged hQ _) hQ _
  · exact h
  · exact h.countUntagged hQ _

end Counts

/-- A lane whose rotor has come back to HOME with the head of the queue still PASSING. -/
structure LaneUnit.BackedOut (i : LaneNo) (c : Credit) (cs : List Credit) (u : LaneUnit) : Prop where
  queue : QueueLaw i u.queue
  sensors : u.SensorsRun
  head : u.queue = c :: cs
  state : c.state = .passing
  shows : u.Shows c cs
  home : u.tracker = .home

theorem LaneUnit.BackedOut.withCounts {c : Credit} {cs : List Credit} {u : LaneUnit} (h : u.BackedOut i c cs)
    (counts : LaneCounts) : BackedOut i c cs { u with counts := counts } :=
  { h with sensors := { h.sensors with }, shows := { h.shows with } }

theorem LaneUnit.Serving.backedOut {leaving : Prop} {c : Credit} {cs : List Credit} {u : LaneUnit}
    (h : u.Serving leaving i) (hq : u.queue = c :: cs) (hs : c.state = .passing) : u.atHome.BackedOut i c cs where
  queue := h.queue
  sensors := h.sensors.atHome (.inl (h.passingHead hq hs).1)
  head := hq
  state := hs
  shows := { (h.of_cons hq).1 with }
  home := rfl

/-- The credit that was PASSING is UNLOCKED again (R88). -/
theorem LaneUnit.BackedOut.unlock {leaving : Prop} {c : Credit} {cs : List Credit} {u : LaneUnit}
    (h : u.BackedOut i c cs) (hg : u.gate ≠ .closing) :
    (u.modHead fun c => { c with state := .unlocked }).Serving leaving i := by
  have hc : c.Lawful i := h.queue.lawful (h.head ▸ List.mem_cons_self)
  have hservice : u.gate.inService = true := by
    rcases h.shows.gate with e | ⟨e, -⟩
    · rw [e]; exact gateOfCredit_inService _
    · exact absurd e hg
  refine LaneUnit.serving_modHead h.queue h.sensors h.head hservice ⟨hc.lane, ?_, ?_, ?_⟩
    ⟨fun _ => h.home, (nomatch ·)⟩ ?_
  · simp [hc.life, h.state]
  · simp [hc.released, h.state]
  · simp [hc.unlocked, h.state]
  · simp [h.shows.output, h.state]

theorem ServesBut.backoutCredit {c : Credit} {cs : List Credit} (h : ServesBut s i (LaneUnit.BackedOut i c cs) t)
    (r : Rotation) : Serves s (t.backoutCredit i r) := by
  have hend : ∀ o, Serves s (t.endHead i o) := fun o =>
    have hback := h.here
    h.endHead hback.queue hback.sensors hback.head hback.shows o
  unfold State.backoutCredit
  split_ifs with hclosing
  · exact hend _
  · exact hend _
  · exact hend _
  · exact (h.imp (R := fun u => u.BackedOut i c cs ∧ u.gate ≠ .closing) ⟨h.here, hclosing⟩).modLane
      (R := LaneUnit.Serving (s.leaves i) i) (fun u ⟨hu, hg⟩ => hu.unlock hg) |>.serves fun _ => id

/-- A return that finds no PASSING head leaves at most R84 to do. -/
theorem LaneUnit.Serving.atHome {leaving : Prop} {u : LaneUnit} (h : u.Serving leaving i)
    (ht : u.tracker = .awayFirst ∨ u.tracker = .awaySecond) (hp : ∀ c ∈ u.queue.head?, c.state ≠ .passing) :
    u.atHome.Serving True i :=
  h.of_gate (h.sensors.atHome ht) rfl rfl rfl (fun _ _ _ => .inr trivial) fun c _ hq _ =>
    ⟨fun _ => rfl, fun e => absurd e (hp c (by simp [hq]))⟩

/-- Steps 1 to 3 of R109. -/
theorem Serves.returned (h : Serves s t) (ht : (t.lane i).tracker = .awayFirst ∨ (t.lane i).tracker = .awaySecond)
    (r : Rotation) :
    let counted := (t.modLane i LaneUnit.atHome).countRotation i (t.lane i).tracker r
    ServesBut s i (LaneUnit.Serving True i)
      (if (t.lane i).tracker = .awayFirst && (t.lane i).passingHead then counted.backoutCredit i r else counted) := by
  intro counted
  split
  · rename_i hheld
    obtain ⟨-, hp⟩ : (t.lane i).tracker = .awayFirst ∧ (t.lane i).passingHead = true := by simpa using hheld
    obtain ⟨c, cs, hq, hs, -⟩ := LaneUnit.passingHead_iff.mp hp
    have hback : ServesBut s i (LaneUnit.BackedOut i c cs) (t.modLane i LaneUnit.atHome) :=
      (h.focus (Q := fun u => u = t.lane i) rfl).modLane fun u hu => by
        rw [hu]; exact (h.lane i).backedOut hq hs
    have hserves := (hback.countRotation (fun _ _ hu => hu.withCounts _) (t.lane i).tracker r).backoutCredit r
    exact hserves.focus ((hserves.lane i).imp fun _ => trivial)
  · rename_i hheld
    have hp : ∀ c ∈ (t.lane i).queue.head?, c.state ≠ .passing := fun c hc hs => by
      obtain ⟨cs, hq⟩ := List.head?_eq_some_iff.mp hc
      obtain ⟨haway, hpassing⟩ := (h.lane i).passingHead hq hs
      simp [haway, hpassing] at hheld
    have hhome : ServesBut s i (LaneUnit.Serving True i) (t.modLane i LaneUnit.atHome) :=
      (h.focus (Q := fun u => u = t.lane i) rfl).modLane fun u hu => by
        rw [hu]; exact (h.lane i).atHome ht hp
    exact hhome.countRotation (fun _ _ hu => LaneUnit.Serving.quiet hu ..) _ r

theorem Serves.returnHome (h : Serves s t)
    (ht : (t.lane i).tracker = .awayFirst ∨ (t.lane i).tracker = .awaySecond) (r : Rotation) :
    Serves s (t.returnHome i r) := by
  have hdrained := ((h.returned ht r).modLane (R := LaneUnit.Serving (s.leaves i) i)
    fun _ hu => hu.offIfDrained).serves fun _ => id
  unfold State.returnHome
  exact (hdrained.homeRelease i).modLane i fun _ hu => hu.watchBeam _

theorem serves_returnToHome (h : Serves s s) (i : LaneNo) : Gives (Serves s) (execReturnToHome i s) := by
  refine gives_whenRunning h ?_
  split_ifs with ht
  · split
    · exact h.returnHome ht _
    · exact h
  · exact h

/-! ### Beam, settling, credit life, unlock and the timers -/

theorem serves_beamSample (h : Serves s s) (i : LaneNo) (level : Nat) :
    Gives (Serves s) (execBeamSample i level s) := by
  refine gives_whenRunning h ?_
  dsimp only
  split
  · exact h
  · rename_i before hb
    have hreads : (s.lane i).gate.reads = true := (h.lane i).sensors.beam.mp (by simp [hb])
    have hsample : Serves s (s.modLane i fun u =>
        { u.reclassify s.clock before (classify u.config level before) with
          lastSample := some { level := level, takenAt := s.clock }, firstSample := false }) :=
      h.modLaneAt (LaneUnit.Serving.quiet ((h.lane i).reclassify _ hb _) ..)
    have hgate : ((s.modLane i fun u =>
        { u.reclassify s.clock before (classify u.config level before) with
          lastSample := some { level := level, takenAt := s.clock }, firstSample := false }).lane i).gate.reads =
        true := by
      refine (hsample.lane i).sensors.beam.mp ?_
      rw [State.modLane_lane, if_pos rfl]
      unfold LaneUnit.reclassify LaneUnit.watchBeam
      dsimp only
      split_ifs <;> rfl
    split
    · exact hsample.detect hgate _
    · exact hsample

theorem serves_beamBlockedExpiry (h : Serves s s) (i : LaneNo) : Gives (Serves s) (execBeamBlockedExpiry i s) := by
  refine gives_whenRunning h ?_
  dsimp only
  split
  · exact h
  · exact Each.raiseAt (Each.append ((h.waitUntil _).modLane i fun _ hu => hu.stopBlocked) _) _ _

theorem serves_settleExpiry (h : Serves s s) (i : LaneNo) (home : Bool) :
    Gives (Serves s) (execSettleExpiry i home s) := by
  refine gives_whenRunning h ?_
  dsimp only
  split
  · exact h
  · rename_i n hn
    have hg : (s.lane i).gate = .settling := (h.lane i).sensors.settle.mp (by simp [hn])
    have hsettling : ServesBut s i (fun u => u.Serving (s.leaves i) i ∧ u.gate = .settling) (s.waitUntil n) :=
      (h.waitUntil n).focus ⟨h.lane i, hg⟩
    split
    · exact Each.raiseAt ((hsettling.modLane (R := LaneUnit.Serving (s.leaves i) i)
        fun _ ⟨hu, hset⟩ => hu.settledHome hset).serves fun _ => id) _ _
    · exact (hsettling.modLane (R := fun u => LaneUnit.Faulting i { u with gate := .fault })
        fun _ ⟨hu, hset⟩ => hu.faulting_settledAway _ hset).enterFault (fun _ => id) _

theorem serves_creditLifeExpiry (h : Serves s s) (i : LaneNo) (credit : Nat) :
    Gives (Serves s) (execCreditLifeExpiry i credit s) := by
  refine gives_whenRunning h ?_
  dsimp only
  split
  · exact h
  · split
    · exact (h.waitUntil _).endHead i _
    · exact (h.waitUntil _).endCredit i _ _

theorem serves_unlockStart (h : Serves s s) (i : LaneNo) : Gives (Serves s) (execUnlockStart i s) := by
  refine gives_whenRunning h ?_
  split
  · exact h
  · split
    · exact (h.waitUntil _).tryUnlock i
    · exact h

theorem serves_unlockEnd (h : Serves s s) (i : LaneNo) : Gives (Serves s) (execUnlockEnd i s) := by
  refine gives_whenRunning h ?_
  split
  · exact h
  · split
    · exact (h.waitUntil _).endHead i _
    · exact (h.waitUntil _).modLane i fun _ hu => hu.markEndPassed
    · exact h

theorem serves_passageLimitExpiry (h : Serves s s) (i : LaneNo) : Gives (Serves s) (execPassageLimitExpiry i s) := by
  refine gives_whenRunning h ?_
  dsimp only
  split
  · exact h
  · rename_i n hn
    have hsensors := (h.lane i).sensors
    have hreads := hsensors.reads_of_rotation (hsensors.passage (by simp [hn]))
    have hstopped := (h.waitUntil (n + (s.lane i).config.passageLimit * 1000 + 1)).modLane i
      (f := fun u => { u with passageFrom := none }) fun _ hu => hu.stopPassage
    exact Serves.detect hstopped (by simpa using hreads) _

theorem serves_silenceExpiry (h : Serves s s) (i : LaneNo) : Gives (Serves s) (execSilenceExpiry i s) := by
  refine gives_whenRunning h ?_
  dsimp only
  split
  · exact h
  · exact Each.raiseAt (Each.append (Serves.withdraw ((h.waitUntil _).modLane i fun _ hu => hu.silence) i _ _) _) _ _

/-! ### The pacer (R129, R131) -/

theorem Serves.regain (h : Serves s t) : Serves s t.regain := by
  unfold State.regain
  split
  · exact Each.raise (Each.append (h.withPacer _) _) _
  · exact h

theorem Serves.acceptEdge (h : Serves s t) (k : EdgeClass) : Serves s (t.acceptEdge k) :=
  Serves.arbitrate (h.regain.withPacer _)

theorem serves_carrierEdge (h : Serves s s) : Gives (Serves s) (execCarrierEdge s) := by
  refine gives_whenRunning h ?_
  split
  · exact h
  · split
    · exact h
    · exact h.acceptEdge _
    · exact h.acceptEdge _

theorem serves_lostWatchExpiry (h : Serves s s) : Gives (Serves s) (execLostWatchExpiry s) := by
  refine gives_whenRunning h ?_
  dsimp only
  split
  · exact Each.raise (Each.append ((h.waitUntil _).withPacer _) _) _
  · exact h

/-! ### Starts, answers and partial frames -/

/-- A start leaves every lane OFF and empty, whatever it was (R102, R183). -/
theorem serves_start (hp : t.pending = s.pending) (kind : StartKind) (cause : StartCause) :
    Serves s (t.start kind cause) := by
  refine Each.append (t := State.restart _ kind cause _) ⟨rfl, ?_, fun i => ?_⟩ _
  · show (if kind = .cold then t.emptied else t).pending = s.pending
    split <;> exact hp
  · rw [State.restart_lane]
    exact LaneUnit.serving_restart _

theorem Serves.clearAllSent (h : Serves s t) (a : OutAnswer) : Serves s (t.clearAllSent a) :=
  (serves_start h.pending .cold .clearAll).withOffice _ _

theorem Serves.officeSent (h : Serves s t) (a : OutAnswer) : Serves s (t.officeSent a) := by
  unfold State.officeSent
  split
  · exact h.clearAllSent a
  · exact (h.modLink officeLink _).withOffice _ _

theorem Serves.clockOut (h : Serves s t) : Serves s t.clockOut := by
  have hfiller : Serves s t.useFiller := by
    rw [State.useFiller_eq]; exact h.withOffice _ _
  unfold State.clockOut
  split
  · exact h.withOffice _ _
  · split
    · exact hfiller.withOffice _ _
    · unfold State.clockByte
      split
      · exact (hfiller.modLink officeLink _).withOffice _ _
      · exact hfiller.officeSent _

theorem serves_clearAllStart (h : Serves s s) : Gives (Serves s) (execClearAllStart s) := by
  refine gives_whenRunning h ?_
  split
  · exact h.clearAllSent _
  · exact h

theorem serves_answerSendBegin (h : Serves s s) (l : LinkNo) : Gives (Serves s) (execAnswerSendBegin l s) := by
  refine gives_whenRunning h ?_
  dsimp only
  split
  · exact h
  · split_ifs
    · exact h
    · exact h.modLink l _
    · exact (h.modLink l _).withOffice _ _

theorem serves_answerSent (h : Serves s s) (l : LinkNo) : Gives (Serves s) (execAnswerSent l s) := by
  refine gives_whenRunning h ?_
  split
  · exact h
  · split
    · exact h.modLink l _
    · exact h.officeSent _

theorem serves_frameDiscarded (h : Serves s s) (l : LinkNo) : Gives (Serves s) (execFrameDiscarded l s) := by
  refine gives_whenRunning h ?_
  split
  · exact h
  · exact h.idleReceiver l

theorem serves_byteError (h : Serves s s) (l : LinkNo) : Gives (Serves s) (execByteError l s) := by
  refine gives_whenRunning h ?_
  split
  · exact h.idleReceiver l
  · exact h

theorem serves_frameGapExpiry (h : Serves s s) (l : LinkNo) : Gives (Serves s) (execFrameGapExpiry l s) := by
  refine gives_whenRunning h ?_
  split
  · exact h
  · split
    · exact (h.waitUntil _).idleReceiver l
    · exact h

theorem serves_chipSelectRelease (h : Serves s s) : Gives (Serves s) (execChipSelectRelease s) :=
  gives_whenRunning h (h.idleReceiver officeLink)

end Sys2Proof.Machine

/-! ## What requests keep of the laws of the lane units -/

namespace Sys2Proof.Machine

/-- A request's action keeps the laws of the lane units. -/
def KeepsLanes (act : State → State × Answer) : Prop := ∀ s t : State, Serves s t → Serves s (act t).1

theorem keepsLanes_report (f : State → Answer) : KeepsLanes (report f) := fun _ _ => id

/-- A request that leaves run state, waiting commands and lanes. -/
theorem keepsLanes_of_eq {act : State → State × Answer}
    (h : ∀ t, (act t).1.run = t.run ∧ (act t).1.pending = t.pending ∧ (act t).1.lanes = t.lanes) : KeepsLanes act :=
  fun _ t hs =>
    have ⟨hr, hp, hl⟩ := h t
    hs.congr hr hp hl

theorem keepsLanes_onLinkLane {l : LinkNo} {act : LaneNo → State → State × Answer} (h : ∀ i, KeepsLanes (act i)) :
    KeepsLanes (onLinkLane l act) := by
  intro s t hs
  unfold onLinkLane
  split
  · exact h _ s t hs
  · exact hs

theorem keepsLanes_onLane {lane : Nat} {act : LaneNo → State → State × Answer} (h : ∀ i, KeepsLanes (act i)) :
    KeepsLanes (onLane lane act) := by
  intro s t hs
  unfold onLane
  split
  · exact h _ s t hs
  · exact hs

theorem keepsLanes_onPass {n : Nat} {act : Pass → State → State × Answer} (h : ∀ p, KeepsLanes (act p)) :
    KeepsLanes (onPass n act) := by
  intro s t hs
  unfold onPass
  split
  · exact hs
  · split
    · exact hs
    · exact h _ s t hs

/-! ### Requests on passes (R11 to R35, R141, R148) -/

theorem keepsLanes_loadPass (n check cls days paid first last : Nat) :
    KeepsLanes (loadPass n check cls days paid first last) := by
  refine keepsLanes_of_eq fun t => ?_
  unfold loadPass
  split_ifs <;> exact ⟨rfl, rfl, rfl⟩

theorem keepsLanes_amendPass (n presence : Nat) (a : Amendment) : KeepsLanes (amendPass n presence a) := by
  refine keepsLanes_of_eq fun t => ?_
  unfold amendPass
  split
  · exact ⟨rfl, rfl, rfl⟩
  · split
    · exact ⟨rfl, rfl, rfl⟩
    · split_ifs <;> exact ⟨rfl, rfl, rfl⟩

theorem keepsLanes_blockPass (p : Pass) : KeepsLanes (blockPass p) := by
  intro s t hs
  have hblocked : Serves s (t.modPass p.number fun q => { q with state := .blocked }) := hs.modPass _ _
  unfold blockPass
  dsimp only
  split
  · exact hs
  · split
    · exact hblocked
    · split_ifs
      · exact hblocked.endHead _ _
      · exact hblocked.endCredit _ _ _
      · exact hblocked

theorem keepsLanes_unblockPass (p : Pass) : KeepsLanes (unblockPass p) := by
  refine keepsLanes_of_eq fun t => ?_
  unfold unblockPass
  split <;> exact ⟨rfl, rfl, rfl⟩

theorem keepsLanes_purgePass (p : Pass) : KeepsLanes (purgePass p) := by
  refine keepsLanes_of_eq fun t => ?_
  unfold purgePass
  split <;> exact ⟨rfl, rfl, rfl⟩

theorem Serves.markOverUse {s t : State} (h : Serves s t) (p : Pass) (day : Nat) : Serves s (t.markOverUse p day) :=
  Each.append (h.modPass _ _) _

/-- A cut link leaves the credit (R33). -/
theorem Serves.cutLink {s t : State} (h : Serves s t) (n : Nat) : Serves s (t.cutLink n) := by
  refine h.mapLanes fun i u hu => hu.mapCredits (fun c hc => ?_) (fun c => ?_) fun c => ?_ <;> split
  · exact { hc with }
  · exact hc
  all_goals rfl

theorem keepsLanes_mergeInWindow (day : Nat) (kind : DayKind) (p : Pass) : KeepsLanes (mergeInWindow day kind p) := by
  intro s t hs
  unfold mergeInWindow
  split
  · exact hs.markOverUse p day
  split
  · split_ifs
    · exact hs.modPass _ _
    · exact hs
    · exact (hs.cutLink p.number).modPass _ _
  · split_ifs
    · exact hs.modPass _ _
    · exact hs.markOverUse p day

theorem keepsLanes_mergeUse (n day kind : Nat) : KeepsLanes (mergeUse n day kind) := by
  intro s t hs
  unfold mergeUse
  split
  · exact hs
  · refine keepsLanes_onPass (fun p s t hs => ?_) s t hs
    split
    · exact keepsLanes_mergeInWindow _ _ p s t hs
    · exact hs

theorem keepsLanes_quoteRefund (p : Pass) : KeepsLanes (quoteRefund p) := by
  refine keepsLanes_of_eq fun t => ?_
  unfold quoteRefund
  split <;> exact ⟨rfl, rfl, rfl⟩

theorem keepsLanes_settleRefund (generation : Nat) (p : Pass) : KeepsLanes (settleRefund generation p) := by
  refine keepsLanes_of_eq fun t => ?_
  unfold settleRefund
  split
  · exact ⟨rfl, rfl, rfl⟩
  · split_ifs <;> exact ⟨rfl, rfl, rfl⟩

/-! ### PRESENT (R55, R66 to R69) -/

theorem newCredit_lawful (s : State) (i : LaneNo) (p : Pass) : (newCredit s i p).Lawful i := by
  constructor <;> simp [newCredit]

theorem Serves.grant {s t : State} {i : LaneNo} (h : Serves s t) (hg : (t.lane i).gate.inService = true)
    (hroom : (t.lane i).queue.length < 2) (p : Pass) : Serves s (grant i p t).1 := by
  have hlink : Serves s (t.linkFirstUse i p) := by
    rw [State.linkFirstUse_eq]
    exact h.withTable _ _
  have hqueued : Serves s ((t.linkFirstUse i p).modLane i (LaneUnit.enqueue (newCredit t i p))) :=
    hlink.modLaneAt <| by
      rw [State.linkFirstUse_lane]
      exact (h.lane i).enqueue hg hroom (newCredit_lawful t i p) rfl
  rw [grant_fst]
  split
  · exact hqueued.offer i
  · exact hqueued

theorem keepsLanes_deny (i : LaneNo) (reason : DenyReason) (detail : Nat) : KeepsLanes (deny i reason detail) := by
  intro s t hs
  unfold deny
  dsimp only
  exact hs.modLane i fun _ hu => LaneUnit.Serving.quiet hu ..

theorem keepsLanes_present (pass check : Nat) (i : LaneNo) : KeepsLanes (present pass check i) := by
  intro s t hs
  unfold present
  dsimp only
  split_ifs with hgate _ hroom
  · exact hs
  · exact keepsLanes_deny _ _ _ s t hs
  · exact hs
  split
  · exact keepsLanes_deny _ _ _ s t hs
  · split
    · exact keepsLanes_deny _ _ _ s t hs
    · exact hs.grant (by simpa [GateState.notInService] using hgate) (Nat.lt_of_not_le hroom) _

/-! ### The office's requests (R38 to R48) -/

theorem keepsLanes_setTariff (cls : Nat) (x : Tariff) : KeepsLanes (setTariff cls x) := by
  refine keepsLanes_of_eq fun t => ?_
  unfold setTariff
  split
  · exact ⟨rfl, rfl, rfl⟩
  · exact ⟨rfl, rfl, rfl⟩
  · split <;> exact ⟨rfl, rfl, rfl⟩

theorem keepsLanes_readTariff (cls : Nat) : KeepsLanes (readTariff cls) := by
  refine keepsLanes_of_eq fun t => ?_
  unfold readTariff
  split <;> exact ⟨rfl, rfl, rfl⟩

theorem keepsLanes_setClock (time : Nat) : KeepsLanes (setClock time) := by
  refine keepsLanes_of_eq fun t => ?_
  unfold setClock
  split_ifs <;> exact ⟨rfl, rfl, rfl⟩

theorem Serves.zeroDay {s t : State} (h : Serves s t) : Serves s t.zeroDay :=
  (h.mapLanes (f := fun u => { u with counts := LaneCounts.zero }) fun _ _ hu => LaneUnit.Serving.quiet hu ..).congr
    rfl rfl rfl

theorem Serves.openNow {s t : State} (h : Serves s t) (n : Nat) : Serves s (t.openNow n) := by
  have hzeroed : Serves s (if decide (n = t.lastOpened) = true then t else t.zeroDay) := by
    split
    · exact h
    · exact h.zeroDay
  unfold State.openNow
  exact Each.raise (Each.append (hzeroed.withDay .opened n) _) _

theorem keepsLanes_openDay (n : Nat) : KeepsLanes (openDay n) := by
  intro s t hs
  unfold openDay
  split_ifs
  · exact hs
  · exact hs
  · exact hs
  · exact hs.openNow n
  · exact hs

theorem keepsLanes_closeDay : KeepsLanes closeDay := by
  intro s t hs
  unfold closeDay
  split
  · exact hs
  · exact hs
  · exact Each.closeIfDrained (hs.withdrawAll.withDay .closing _)

/-! ### The console's requests (R78 to R83, R96, R126 to R133) -/

theorem keepsLanes_openLane (i : LaneNo) : KeepsLanes (openLane i) := by
  intro s t hs
  unfold openLane
  dsimp only
  split
  case h_1 hg =>
    dsimp only
    exact hs.modLaneAt (LaneUnit.serving_opened _ ((hs.lane i).queue_nil (.inr (.inl hg))) _)
  case h_3 hg =>
    have hopened : Serves s (t.modLane i fun u => { u with gate := gateOfQueue u.queue }) :=
      hs.modLaneAt ((hs.lane i).reopen hg)
    exact hopened.raiseAt _ _
  all_goals exact hs

theorem keepsLanes_closeLane (i : LaneNo) : KeepsLanes (closeLane i) := by
  intro s t hs
  unfold closeLane closeLane.inService
  dsimp only
  split
  case h_1 | h_4 => exact hs
  case h_2 hg => exact hs.modLaneAt (LaneUnit.serving_toOff ((hs.lane i).queue_nil (.inr (.inr (.inl hg)))))
  case h_3 hg => exact hs.modLaneAt (LaneUnit.serving_toOff ((hs.lane i).queue_nil (.inr (.inr (.inr hg)))))
  all_goals exact hs.closeInService (by rw [‹(t.lane i).gate = _›]; rfl)

theorem keepsLanes_clearLane (i : LaneNo) : KeepsLanes (clearLane i) := by
  intro s t hs
  unfold clearLane
  split
  · rename_i hg
    exact hs.modLaneAt (LaneUnit.serving_toSettling _ ((hs.lane i).queue_nil (.inr (.inr (.inr hg)))))
  · exact hs

theorem keepsLanes_configureLane (config : LaneConfig) (i : LaneNo) : KeepsLanes (configureLane config i) := by
  intro s t hs
  have hstored : Serves s (t.modLane i (LaneUnit.store t.clock (clampConfig config))) :=
    hs.modLane i fun _ hu => hu.store _ _
  have hsettled : (t.lane i).queue = [] → Serves s
      ((t.modLane i (LaneUnit.store t.clock (clampConfig config))).modLane i (LaneUnit.toSettling t.clock)) := fun hq =>
    hstored.modLaneAt (LaneUnit.serving_toSettling _ (by simpa using hq))
  unfold configureLane configureLane.busy
  dsimp only
  split
  case h_1 | h_2 => exact hstored
  case h_3 hg => exact hsettled ((hs.lane i).queue_nil (.inr (.inr (.inl hg))))
  case h_4 hg => exact hsettled ((hs.lane i).queue_nil (.inl hg))
  all_goals exact hs

theorem Serves.startLift {s t : State} (h : Serves s t) : Serves s t.startLift := by
  unfold State.startLift
  split
  · exact Serves.arbitrate (h.withPacer _)
  · exact Serves.freeReleaseAll (h.withPacer _)

theorem Serves.stopLift {s t : State} (h : Serves s t) : Serves s t.stopLift :=
  (h.mapLanes fun _ _ hu => hu.liftStop t.clock).congr rfl rfl rfl

theorem keepsLanes_setLift (state : Nat) : KeepsLanes (setLift state) := by
  intro s t hs
  unfold setLift
  split
  · exact hs
  · split
    · exact hs
    · split
      · exact hs.startLift
      · exact hs.stopLift

theorem keepsLanes_setSeats (seats : Nat) : KeepsLanes (setSeats seats) := fun _ _ hs => hs.withPacer _

theorem keepsLanes_setPacing (mode : Nat) (settings : PacingSettings) : KeepsLanes (setPacing mode settings) := by
  intro s t hs
  unfold setPacing
  split
  · exact hs
  · rename_i m _
    have hset : Serves s { t with pacer := t.pacer.setMode t.clock m (clampPacing settings) } := hs.withPacer _
    dsimp only
    split
    · exact hset.freeReleaseAll
    · exact hset

/-! ### Event Status and reports (R122, R161 to R167) -/

theorem keepsLanes_readEvents (l : LinkNo) : KeepsLanes (readEvents l) := by
  intro s t hs
  unfold readEvents
  dsimp only
  exact hs.modLink l _

theorem keepsLanes_setMask (l : LinkNo) (mask : Nat) : KeepsLanes (setMask l mask) := by
  refine keepsLanes_of_eq fun t => ?_
  unfold setMask
  split <;> exact ⟨rfl, rfl, rfl⟩

theorem keepsLanes_setLevels (v : Levels) : KeepsLanes (setLevels v) := by
  refine keepsLanes_of_eq fun t => ?_
  unfold setLevels
  split <;> exact ⟨rfl, rfl, rfl⟩

theorem keepsLanes_readCounts (l : LinkNo) (selector : Nat) : KeepsLanes (readCounts l selector) := by
  refine keepsLanes_of_eq fun t => ?_
  unfold readCounts
  split <;> exact ⟨rfl, rfl, rfl⟩

theorem keepsLanes_readJournal (start count : Nat) : KeepsLanes (readJournal start count) := by
  refine keepsLanes_of_eq fun t => ?_
  unfold readJournal
  dsimp only
  split_ifs <;> exact ⟨rfl, rfl, rfl⟩

/-- Every request of R178 keeps the laws. -/
theorem keepsLanes_requestAction {c : Instr} {l : LinkNo} {code tag : Nat} {act : State → State × Answer}
    (hc : requestAction c = some (l, code, tag, act)) : KeepsLanes act := by
  cases c <;> cases hc
  case present => exact keepsLanes_onLinkLane (keepsLanes_present _ _)
  case laneStatus => exact keepsLanes_onLinkLane fun _ => keepsLanes_report _
  case hello => exact keepsLanes_report _
  case readEvents => exact keepsLanes_readEvents _
  case setMask => exact keepsLanes_setMask _ _
  case setLevels => exact keepsLanes_setLevels _
  case readCounts => exact keepsLanes_readCounts _ _
  case readJournal => exact keepsLanes_readJournal _ _
  case loadPass => exact keepsLanes_loadPass _ _ _ _ _ _ _
  case amendPass => exact keepsLanes_amendPass _ _ _
  case blockPass => exact keepsLanes_onPass keepsLanes_blockPass
  case unblockPass => exact keepsLanes_onPass keepsLanes_unblockPass
  case purgePass => exact keepsLanes_onPass keepsLanes_purgePass
  case readPass => exact keepsLanes_onPass fun _ => keepsLanes_report _
  case mergeUse => exact keepsLanes_mergeUse _ _ _
  case quoteRefund => exact keepsLanes_onPass keepsLanes_quoteRefund
  case settleRefund => exact keepsLanes_onPass (keepsLanes_settleRefund _)
  case setTariff => exact keepsLanes_setTariff _ _
  case readTariff => exact keepsLanes_readTariff _
  case setClock => exact keepsLanes_setClock _
  case openDay => exact keepsLanes_openDay _
  case closeDay => exact keepsLanes_closeDay
  case readDay => exact keepsLanes_report _
  case readStart => exact keepsLanes_report _
  case clearAll => exact keepsLanes_report _
  case setLift => exact keepsLanes_setLift _
  case setSeats => exact keepsLanes_setSeats _
  case setPacing => exact keepsLanes_setPacing _ _
  case readLift => exact keepsLanes_report _
  case openLane => exact keepsLanes_onLane keepsLanes_openLane
  case closeLane => exact keepsLanes_onLane keepsLanes_closeLane
  case clearLane => exact keepsLanes_onLane keepsLanes_clearLane
  case configureLane => exact keepsLanes_onLane (keepsLanes_configureLane _)
  case readLane => exact keepsLanes_onLane fun _ => keepsLanes_report _
  case unknownRequest => exact keepsLanes_report _

end Sys2Proof.Machine

/-! ## Every step keeps the laws of the lane units -/

namespace Sys2Proof.Machine

variable {s t : State}

/-! ### A part that runs -/

theorem Serves.lanesLaw (h : Serves s t) : LanesLaw t where
  lane := fun i => (LaneUnit.serving_iff.mp ((h.lane i).imp fun hleaves =>
    ⟨h.run, (congrArg List.head? h.pending).trans hleaves⟩)).1
  outputs := fun i _ => (LaneUnit.serving_iff.mp (h.lane i)).2
  held := fun _ hrun => absurd h.run hrun

/-- The lanes of a part that runs while its front command is taken. -/
theorem LanesLaw.serving (h : LanesLaw s) (hrun : s.run = .running) {c : Instr} {rest : List Instr}
    (hp : s.pending = c :: rest) (i : LaneNo) : (s.lane i).Serving (c = .rotorLeave i) i :=
  (LaneUnit.serving_iff.mpr ⟨h.lane i, h.outputs i hrun⟩).imp fun ⟨_, hhead⟩ => by simpa [hp] using hhead

theorem serves_takeFrame (h : Serves s s) {act : State → State × Answer} (hact : KeepsLanes act) (l : LinkNo)
    (code tag : Nat) : Gives (Serves s) (takeFrame l code tag act s) :=
  gives_takeFrame h (fun _ => (h.taken l).modLink l _) (fun a => h.answered l code tag a)
    fun a => (hact _ _ (h.taken l)).reply l code tag a

/-- A request, from its row or from the byte that completes its frame. -/
theorem serves_runRequest (h : Serves s s) (c : Instr) : Gives (Serves s) (runRequest c s) := by
  cases hc : requestAction c with
  | none => rw [runRequest_noAction hc, gives_next]; exact h
  | some x =>
    obtain ⟨l, code, tag, act⟩ := x
    rw [runRequest_requestAction hc]
    exact serves_takeFrame h (keepsLanes_requestAction hc) l code tag

/-- Which commands wait is all that `Serves` takes of its first state. -/
theorem Serves.rebase (h : Serves s t) : Serves t t ∧ ∀ r, Serves t r → Serves s r := by
  have hlaws : t.laws = s.laws := by
    unfold State.laws State.leaves
    rw [h.pending]
  exact ⟨⟨h.run, rfl, hlaws ▸ h.lane⟩, fun r hr => ⟨hr.run, hr.pending.trans h.pending, hlaws ▸ hr.lane⟩⟩

theorem serves_receiveByte (h : Serves s s) (l : LinkNo) (b : Byte) : Gives (Serves s) (receiveByte l b s) := by
  have hhold : ∀ bytes : List Byte, Serves s (s.hold l bytes) := fun _ => h.modLink l _
  have hidle : Serves s (s.idleReceiver l) := h.idleReceiver l
  unfold receiveByte
  split
  · rw [gives_next]
    split
    · exact hhold _
    · exact h
  · dsimp only
    split_ifs
    · exact gives_next.mpr hidle
    · unfold completeFrame
      split
      · exact serves_runRequest h _
      · exact gives_next.mpr hidle
    · exact gives_next.mpr (hhold _)

theorem serves_byteReceived (h : Serves s s) (l : LinkNo) (b : Byte) :
    Gives (Serves s) (execByteReceived l b s) := by
  have hout := h.clockOut
  unfold execByteReceived
  split_ifs
  · exact gives_next.mpr h
  · exact serves_receiveByte h l b
  · exact gives_next.mpr hout
  · obtain ⟨hself, hback⟩ := hout.rebase
    exact (serves_receiveByte hself l b).imp hback
  · exact gives_next.mpr h

/-! ### RESET and power (R182) -/

/-- Lanes that keep their laws in a part that does not run, whatever waits. -/
theorem LanesLaw.withRun (h : LanesLaw s) (hrun : s.run ≠ .running) {r : RunState} (hr : r ≠ .running)
    (q : List Instr) : LanesLaw { s with run := r, pending := q } where
  lane := fun i => by
    have hlane := h.lane i
    have hnone : ∀ {p q : Prop}, (s.run = .running ∧ p) = (r = .running ∧ q) := by simp [hrun, hr]
    rw [hnone] at hlane
    exact hlane
  outputs := fun _ e => absurd e hr
  held := fun i _ => h.held i hrun

/-- The outputs of a part that stops are inactive, and its lanes stay (R182). -/
theorem lanesLaw_outputsOff (h : ∀ i, (s.lane i).Serving False i) {r : RunState} (hr : r ≠ .running) :
    LanesLaw { s.outputsOff with run := r } := by
  have hlane : ∀ i, State.lane { s.outputsOff with run := r } i =
      { s.lane i with unlockOut := false, sensorPower := false } := fun i => Six.get_map _ s.lanes i
  refine ⟨fun i => ?_, fun _ e => absurd e hr, fun i _ => by rw [hlane]; exact ⟨rfl, rfl⟩⟩
  rw [hlane]
  obtain ⟨hqueue, hgate, hsensors⟩ := (LaneUnit.serving_iff.mp ((h i).imp (False.elim))).1
  exact ⟨hqueue, hgate, { hsensors with }⟩

theorem lanesLaw_start (s : State) (kind : StartKind) (cause : StartCause) : LanesLaw (s.start kind cause) :=
  (serves_start (s := s) rfl kind cause).lanesLaw

/-- An event of a part that runs, but for a leave (`serves_rotorLeave`) and what a request or a byte does. -/
theorem lanesLaw_event (hrun : s.run = .running) (h : ∀ i, (s.lane i).Serving False i) {c : Instr}
    (hc : requestAction c = none) (hleave : ∀ i, c ≠ .rotorLeave i) : Gives LanesLaw (exec c s) := by
  have hs : Serves s s := ⟨hrun, rfl, fun i => (h i).imp False.elim⟩
  have lift : ∀ {r : Result}, Gives (Serves s) r → Gives LanesLaw r := fun hr => hr.imp fun _ => Serves.lanesLaw
  cases c <;> cases hc
  case rotorLeave i => exact absurd rfl (hleave i)
  case frameDiscarded => exact lift (serves_frameDiscarded hs _)
  case frameGapExpiry => exact lift (serves_frameGapExpiry hs _)
  case byteError => exact lift (serves_byteError hs _)
  case chipSelectRelease => exact lift (serves_chipSelectRelease hs)
  case answerSendBegin => exact lift (serves_answerSendBegin hs _)
  case answerSent => exact lift (serves_answerSent hs _)
  case mid => exact lift (serves_mid hs _)
  case returnToHome => exact lift (serves_returnToHome hs _)
  case beamSample => exact lift (serves_beamSample hs _ _)
  case carrierEdge => exact lift (serves_carrierEdge hs)
  case settleExpiry => exact lift (serves_settleExpiry hs _ _)
  case creditLifeExpiry => exact lift (serves_creditLifeExpiry hs _ _)
  case unlockStart => exact lift (serves_unlockStart hs _)
  case unlockEnd => exact lift (serves_unlockEnd hs _)
  case passageLimitExpiry => exact lift (serves_passageLimitExpiry hs _)
  case silenceExpiry => exact lift (serves_silenceExpiry hs _)
  case beamBlockedExpiry => exact lift (serves_beamBlockedExpiry hs _)
  case lostWatchExpiry => exact lift (serves_lostWatchExpiry hs)
  case clearAllStart => exact lift (serves_clearAllStart hs)
  case byteReceived => exact lift (serves_byteReceived hs _ _)
  case powerUp =>
    refine gives_next.mpr ?_
    rw [hrun]
    exact hs.lanesLaw
  case resetAsserted =>
    refine gives_next.mpr ?_
    rw [hrun]
    exact lanesLaw_outputsOff h (nomatch ·)
  case resetReleased =>
    refine gives_next.mpr ?_
    rw [hrun]
    exact hs.lanesLaw
  case powerLoss =>
    refine gives_next.mpr ?_
    rw [hrun]
    exact lanesLaw_outputsOff h (nomatch ·)

/-- A lane whose leave was awaited has its rotor away after it (R86, R101). -/
theorem serves_rotorLeave (hrun : s.run = .running) {i : LaneNo}
    (h : ∀ j, (s.lane j).Serving (Instr.rotorLeave i = .rotorLeave j) j) : Gives (Serves s) (execRotorLeave i s) := by
  rw [execRotorLeave, whenRunning, if_pos hrun, gives_next]
  refine ⟨hrun, rfl, fun j => ?_⟩
  rw [State.modLane_lane]
  split
  · subst_vars
    exact (h _).leave s.clock
  · rename_i hne
    exact (h j).imp fun e => absurd (Instr.rotorLeave.inj e).symm hne

/-- The front command of a part that runs. -/
theorem lanesLaw_exec_running (hrun : s.run = .running) {c : Instr}
    (h : ∀ i, (s.lane i).Serving (c = .rotorLeave i) i) : Gives LanesLaw (exec c s) := by
  by_cases hleave : ∃ i, c = .rotorLeave i
  · obtain ⟨i, rfl⟩ := hleave
    exact (serves_rotorLeave hrun h).imp fun _ => Serves.lanesLaw
  · have hnot : ∀ i, c ≠ .rotorLeave i := fun i e => hleave ⟨i, e⟩
    have hlanes : ∀ i, (s.lane i).Serving False i := fun i => (h i).imp (hnot i)
    cases hc : requestAction c with
    | none => exact lanesLaw_event hrun hlanes hc hnot
    | some x =>
      obtain ⟨l, code, tag, act⟩ := x
      have hs : Serves s s := ⟨hrun, rfl, fun i => (hlanes i).imp False.elim⟩
      rw [exec_requestAction hc]
      exact (serves_takeFrame hs (keepsLanes_requestAction hc) l code tag).imp fun _ => Serves.lanesLaw

/-! ### A part that does not run -/

/-- While it does not run, the part takes power, RESET and nothing else (R182; log 6). -/
theorem lanesLaw_event_stopped (hrun : s.run ≠ .running) (h : LanesLaw s) {c : Instr} (hc : requestAction c = none) :
    Gives LanesLaw (exec c s) := by
  have moves : ∀ r : RunState, r ≠ .running → LanesLaw { s with run := r } := fun r hr => h.withRun hrun hr s.pending
  cases c <;> cases hc
  case powerUp =>
    refine gives_next.mpr ?_
    split
    case h_1 => exact moves _ (nomatch ·)
    case h_2 => exact lanesLaw_start _ _ _
    all_goals exact h
  case resetAsserted =>
    refine gives_next.mpr ?_
    split
    case h_1 => exact absurd ‹_› hrun
    case h_2 => exact moves _ (nomatch ·)
    all_goals exact h
  case resetReleased =>
    refine gives_next.mpr ?_
    split
    case h_1 | h_2 => exact lanesLaw_start _ _ _
    case h_3 => exact moves _ (nomatch ·)
    case h_4 => exact h
  case powerLoss =>
    refine gives_next.mpr ?_
    split
    case h_1 => exact absurd ‹_› hrun
    case h_2 | h_3 => exact moves _ (nomatch ·)
    case h_4 => exact h
  case byteReceived =>
    show Gives LanesLaw (execByteReceived _ _ s)
    rw [execByteReceived, if_neg hrun, gives_next]
    exact h
  all_goals
    refine gives_next.mpr ?_
    rw [if_neg hrun]
    exact h

theorem lanesLaw_exec_stopped (hrun : s.run ≠ .running) (h : LanesLaw s) (c : Instr) : Gives LanesLaw (exec c s) := by
  cases hc : requestAction c with
  | none => exact lanesLaw_event_stopped hrun h hc
  | some x =>
    obtain ⟨l, code, tag, act⟩ := x
    rw [exec_requestAction hc, takeFrame, whenRunning, if_neg hrun, gives_next]
    exact h

/-! ### The step -/

/-- A millisecond of clock time touches no lane. -/
theorem LanesLaw.idle (h : LanesLaw s) : LanesLaw (idle s) := by
  unfold Machine.idle
  split <;> exact { h with }

/-- Settles O56: `Serves` along the events and requests of a part that runs; a lane that R101 leaves CLOSING at HOME has
its leave as the next command, which takes the rotor away. -/
theorem laneLawsAreKept : Obligations.LaneLawsAreKept := by
  intro s t h hstep
  unfold step at hstep
  split at hstep
  · exact Host.Outcome.next.inj hstep ▸ h.idle
  · rename_i c rest hp
    by_cases hrun : s.run = .running
    · exact lanesLaw_exec_running (s := { s with pending := rest }) hrun (h.serving hrun hp) t hstep
    · exact lanesLaw_exec_stopped (s := { s with pending := rest }) hrun (h.withRun hrun hrun rest) c t hstep

end Sys2Proof.Machine

/-! ## The rotor: leave and MID (R85 to R87, R105) -/

namespace Sys2Proof.Machine

/-- An event that reaches a part that runs has its effect (R182). -/
theorem whenRunning_running {s : State} (hrun : s.run = .running) (event : State → State) :
    whenRunning s event = .next (event s) := congrArg _ (if_pos hrun)

section Rotor
variable {s : State} {i : LaneNo} {u : LaneUnit} {c : Credit} {cs : List Credit} {now : Nat}

/-! ### The leave -/

theorem exec_rotorLeave (hrun : s.run = .running) :
    exec (.rotorLeave i) s = .next (s.setLane i ((s.lane i).leave s.clock)) :=
  whenRunning_running hrun fun s => s.modLane i (LaneUnit.leave s.clock)

theorem LaneUnit.leaveRecord_forced (hg : u.gate ≠ .unlocked) :
    u.leaveRecord now =
      { kind := .forced, leaveAt := now, midAt := none, beamEntries := if u.beam = some .broken then 1 else 0
        endPassed := false, committed := false } := by
  simp [LaneUnit.leaveRecord, hg]

theorem LaneUnit.leaveRecord_credited (hg : u.gate = .unlocked) (hq : u.queue = c :: cs) :
    u.leaveRecord now =
      { kind := .credited c.number, leaveAt := now, midAt := none
        beamEntries := if u.beam = some .broken then 1 else 0, endPassed := false, committed := false } := by
  simp [LaneUnit.leaveRecord, hg, hq]

theorem LaneUnit.leave_forced (ht : u.tracker = .home) (hg : u.gate ≠ .unlocked) :
    u.leave now = u.away now (u.leaveRecord now) := (u.leave_home now ht).trans (if_neg hg)

/-- The leave of an UNLOCKED lane makes its head PASSING, and the gate state follows (R80, R86). -/
theorem LaneUnit.leave_credited (ht : u.tracker = .home) (hg : u.gate = .unlocked) (hq : u.queue = c :: cs) :
    u.leave now =
      { u.away now (u.leaveRecord now) with gate := .passing, queue := { c with state := .passing } :: cs } := by
  rw [u.leave_home now ht, if_pos hg]
  simp [LaneUnit.modHead, LaneUnit.away, LaneUnit.follow, hq, hg, GateState.inService, gateOfQueue, gateOfCredit]

/-! ### The MID -/

theorem exec_mid_ignored (hrun : s.run = .running) (ht : (s.lane i).tracker ≠ .awayFirst) :
    exec (.mid i) s = .next s := (whenRunning_running hrun _).trans (congrArg _ (if_neg ht))

theorem exec_mid_captured (hrun : s.run = .running) (ht : (s.lane i).tracker = .awayFirst) :
    exec (.mid i) s = .next
      (if (s.lane i).passingHead then (s.setLane i ((s.lane i).markMid s.clock)).endHead i .passed
      else s.setLane i ((s.lane i).markMid s.clock)) := (whenRunning_running hrun _).trans (congrArg _ (if_pos ht))

end Rotor

/-- Settles O46: a leave by the gate state it finds, a MID by whether its rotation's credit is still the PASSING
head. -/
theorem rotorLeavesAndReachesMid : Obligations.RotorLeavesAndReachesMid := by
  intro i s hrun u away marked
  have hmarked : ∀ b, u.passingHead = b → s.setLane i (u.markMid s.clock) = marked b := by
    rintro _ rfl
    rfl
  refine ⟨fun ht => ?_, fun ht hg => ?_, fun ht hg c cs hq => ?_, exec_mid_ignored hrun,
    fun ht => ⟨fun r c hr hhead hkind hstate => ?_, fun hnone => ?_⟩⟩
  · rw [exec_rotorLeave hrun, LaneUnit.leave_away s.clock ht, State.setLane_lane_self]
  · rw [exec_rotorLeave hrun, LaneUnit.leave_forced ht hg, LaneUnit.leaveRecord_forced hg]
    rfl
  · rw [exec_rotorLeave hrun, LaneUnit.leave_credited ht hg hq, LaneUnit.leaveRecord_credited hg hq]
    rfl
  · obtain ⟨cs, hq⟩ := List.head?_eq_some_iff.mp hhead
    have hpassing : u.passingHead = true :=
      LaneUnit.passingHead_iff.mpr ⟨c, cs, hq, hstate, by rw [hr, Option.map_some, hkind]⟩
    rw [exec_mid_captured hrun ht, if_pos hpassing, hmarked true hpassing]
  · have hpassing : u.passingHead = false := Bool.eq_false_iff.mpr fun h => by
      obtain ⟨c, cs, hq, hstate, hkind⟩ := LaneUnit.passingHead_iff.mp h
      obtain ⟨r, hr, hkind⟩ := Option.map_eq_some_iff.mp hkind
      exact hnone r c hr (by rw [hq]; rfl) hkind hstate
    rw [exec_mid_captured hrun ht, if_neg (by rw [hpassing]; decide), hmarked false hpassing]

end Sys2Proof.Machine

/-! ## The beam and the causes of a fault (R90, R91, R94, R95) -/

namespace Sys2Proof.Machine

section Beam
variable {s : State} {i : LaneNo} {u : LaneUnit} {level : Nat} {before : Beam}

/-! ### The classification -/

/-- A change to BROKEN is a beam entry, and at HOME it starts the beam blocked timer; CLEAR stops that timer (R91). -/
theorem LaneUnit.reclassify_eq (now : Nat) (before after : Beam) (u : LaneUnit) :
    u.reclassify now before after =
      { u with
        beam := some after
        rotation :=
          if before = .clear ∧ after = .broken then
            u.rotation.map fun r => { r with beamEntries := satAdd r.beamEntries 1 }
          else u.rotation
        blockedFrom :=
          if (before = .clear ∧ after = .broken) ∧ u.tracker = .home then some now
          else if after = .clear then none
          else u.blockedFrom } := by
  unfold LaneUnit.reclassify
  by_cases hentry : before = .clear ∧ after = .broken
  · obtain ⟨rfl, rfl⟩ := hentry
    by_cases ht : u.tracker = .home <;> simp [LaneUnit.watchBeam, ht]
  · cases after <;> simp_all

theorem LaneUnit.beamFaultBy_iff :
    u.beamFaultBy level = true ↔ u.config.faultLevel ≤ level ∧
      (u.firstSample = true ∨ ∀ p, u.lastSample = some p → p.level < u.config.faultLevel) := by
  simp [LaneUnit.beamFaultBy, Option.all_eq_true]

/-! ### The sample -/

theorem exec_beamSample_unread (hrun : s.run = .running) (hb : (s.lane i).beam = none) :
    exec (.beamSample i level) s = .next s := by
  show execBeamSample i level s = _
  rw [execBeamSample, whenRunning_running hrun, hb]

/-- A lane unit after a sample is taken (R90). -/
def LaneUnit.sampled (now level : Nat) (before : Beam) (u : LaneUnit) : LaneUnit :=
  { u.reclassify now before (classify u.config level before) with
    lastSample := some { level := level, takenAt := now }, firstSample := false }

theorem exec_beamSample_taken (hrun : s.run = .running) (hb : (s.lane i).beam = some before) :
    exec (.beamSample i level) s = .next
      (if (s.lane i).beamFaultBy level then (s.setLane i ((s.lane i).sampled s.clock level before)).detect i .beamFault
      else s.setLane i ((s.lane i).sampled s.clock level before)) := by
  show execBeamSample i level s = _
  rw [execBeamSample, whenRunning_running hrun, hb]
  rfl

/-! ### Faults -/

theorem State.detect_entry (hg : (s.lane i).gate ≠ .fault) (cause : FaultCause) :
    s.detect i cause = s.enterFault i cause := if_neg hg

theorem State.enterFault_eq (s : State) (i : LaneNo) (cause : FaultCause) :
    s.enterFault i cause =
      State.raise (State.append
        (State.modLane ((s.modLane i fun u => { u with gate := .fault }).withdraw i .laneFault fun _ => true) i fun u =>
          { u with unlockOut := false, fault := some { first := cause, faultAt := s.clock, later := none, count := 1 } })
        (.laneFault i cause none)) (.atLane .laneFault i) := by
  have hclock : ((s.modLane i fun u => { u with gate := .fault }).withdraw i .laneFault fun _ => true).clock =
      s.clock := (Ends.withdraw _ i _ _).clock
  unfold State.enterFault
  dsimp only
  rw [hclock]
  rfl

theorem State.detect_later (hg : (s.lane i).gate = .fault) {r : FaultRecord} (hr : (s.lane i).fault = some r)
    (cause : FaultCause) :
    s.detect i cause =
      State.raise (State.append
        (s.modLane i fun u => { u with fault := some { r with later := some cause, count := min (r.count + 1) 65535 } })
        (.laneFault i r.first (some cause))) (.atLane .laneFault i) := by
  rw [State.detect, if_pos hg, State.laterCause, hr]
  rfl

end Beam

/-- Settles O48: a sample that is taken reclassifies the beam, and a cause it brings is detected, in FAULT as a
later one. -/
theorem beamSamplesClassifyAndFault : Obligations.BeamSamplesClassifyAndFault := by
  refine ⟨fun i level s hrun => ⟨exec_beamSample_unread hrun, ?_⟩,
    fun i cause s => ⟨fun hg => (State.detect_entry hg cause).trans (s.enterFault_eq i cause),
      fun hg r hr => State.detect_later hg hr cause⟩⟩
  intro before hb after entry t fault
  have ht : s.setLane i ((s.lane i).sampled s.clock level before) = t := by
    rw [LaneUnit.sampled, LaneUnit.reclassify_eq]
    rfl
  refine ⟨fun hno => ?_, fun hfault => ?_⟩
  · rw [exec_beamSample_taken hrun hb, if_neg (mt LaneUnit.beamFaultBy_iff.mp hno), ht]
  · rw [exec_beamSample_taken hrun hb, if_pos (LaneUnit.beamFaultBy_iff.mpr hfault), ht]

end Sys2Proof.Machine

/-! ## The timers of a lane (R82, R89, R91, R98) -/

namespace Sys2Proof.Machine

section Timers
variable {s : State} {i : LaneNo} {t : Nat}

/-! ### Timers that do not run (log 2) -/

theorem exec_settleExpiry_stopped (hrun : s.run = .running) (h : (s.lane i).settleEnd = none) (home : Bool) :
    exec (.settleExpiry i home) s = .next s := by
  show execSettleExpiry i home s = _
  rw [execSettleExpiry, whenRunning_running hrun, h]

theorem exec_passageLimitExpiry_stopped (hrun : s.run = .running) (h : (s.lane i).passageFrom = none) :
    exec (.passageLimitExpiry i) s = .next s := by
  show execPassageLimitExpiry i s = _
  rw [execPassageLimitExpiry, whenRunning_running hrun, h]

theorem exec_silenceExpiry_stopped (hrun : s.run = .running) (h : (s.lane i).silenceEnd = none) :
    exec (.silenceExpiry i) s = .next s := by
  show execSilenceExpiry i s = _
  rw [execSilenceExpiry, whenRunning_running hrun, h]

theorem exec_beamBlockedExpiry_stopped (hrun : s.run = .running) (h : (s.lane i).blockedFrom = none) :
    exec (.beamBlockedExpiry i) s = .next s := by
  show execBeamBlockedExpiry i s = _
  rw [execBeamBlockedExpiry, whenRunning_running hrun, h]

/-! ### Timers that run -/

theorem exec_settleExpiry_home (hrun : s.run = .running) (h : (s.lane i).settleEnd = some t) :
    exec (.settleExpiry i true) s =
      .next (((s.waitUntil t).setLane i (s.lane i).settledHome).raiseAt .laneReady i) := by
  show execSettleExpiry i true s = _
  rw [execSettleExpiry, whenRunning_running hrun, h]
  rfl

/-- The settle end away from HOME is a cause, detected in a lane that is not in FAULT (R82). -/
theorem exec_settleExpiry_away (hrun : s.run = .running) (h : (s.lane i).settleEnd = some t)
    (hg : (s.lane i).gate = .settling) :
    exec (.settleExpiry i false) s =
      .next (((s.waitUntil t).setLane i ((s.lane i).settledAway (max s.clock t))).detect i .rotorNotHome) := by
  have hentry : (((s.waitUntil t).setLane i ((s.lane i).settledAway (max s.clock t))).lane i).gate ≠ .fault := by
    simp [LaneUnit.settledAway, hg]
  rw [State.detect_entry hentry]
  show execSettleExpiry i false s = _
  rw [execSettleExpiry, whenRunning_running hrun, h]
  rfl

theorem exec_passageLimitExpiry_fires (hrun : s.run = .running) (h : (s.lane i).passageFrom = some t) :
    exec (.passageLimitExpiry i) s =
      .next (((s.waitUntil (t + (s.lane i).config.passageLimit * 1000 + 1)).setLane i
        { s.lane i with passageFrom := none }).detect i .rotorStuck) := by
  show execPassageLimitExpiry i s = _
  rw [execPassageLimitExpiry, whenRunning_running hrun, h]
  rfl

theorem exec_silenceExpiry_fires (hrun : s.run = .running) (h : (s.lane i).silenceEnd = some t) :
    exec (.silenceExpiry i) s =
      .next (State.raiseAt (State.append
        (((s.waitUntil t).setLane i { s.lane i with link := .silent, silenceEnd := none }).withdraw i .laneSilent
          Credit.notPassing)
        (.linkSilent i ((s.lane i).queue.countP Credit.notPassing))) .linkSilent i) := by
  have hqueue : (((s.waitUntil t).setLane i { s.lane i with link := .silent, silenceEnd := none }).lane i).queue =
      (s.lane i).queue := by simp
  rw [← hqueue]
  show execSilenceExpiry i s = _
  rw [execSilenceExpiry, whenRunning_running hrun, h]
  rfl

theorem exec_beamBlockedExpiry_fires (hrun : s.run = .running) (h : (s.lane i).blockedFrom = some t) :
    exec (.beamBlockedExpiry i) s =
      .next (State.raiseAt (State.append
        ((s.waitUntil (t + (s.lane i).config.blockedLimit * 1000 + 1)).setLane i { s.lane i with blockedFrom := none })
        (.beamBlocked i)) .beamBlocked i) := by
  show execBeamBlockedExpiry i s = _
  rw [execBeamBlockedExpiry, whenRunning_running hrun, h]
  rfl

end Timers

/-- Settles O49: each of the four expiries, with its timer stopped and running. -/
theorem laneTimersRunOut : Obligations.LaneTimersRunOut := fun _ _ hrun =>
  ⟨exec_settleExpiry_stopped hrun,
    fun _ h => ⟨exec_settleExpiry_home hrun h, exec_settleExpiry_away hrun h⟩,
    exec_passageLimitExpiry_stopped hrun, fun _ h => exec_passageLimitExpiry_fires hrun h,
    exec_silenceExpiry_stopped hrun, fun _ h => exec_silenceExpiry_fires hrun h,
    exec_beamBlockedExpiry_stopped hrun, fun _ h => exec_beamBlockedExpiry_fires hrun h⟩

end Sys2Proof.Machine

/-! ## Releases and unlock starts of a head credit (R80, R92, R136, R137) -/

namespace Sys2Proof.Machine

section Head
variable {u : LaneUnit} {c : Credit} {cs : List Credit} {now : Nat}

/-- A change of the head credit, which the gate state of a lane in service follows (R80). -/
theorem LaneUnit.modHead_cons (hq : u.queue = c :: cs) (f : Credit → Credit) :
    u.modHead f =
      { u with
        queue := f c :: cs, gate := if u.gate.inService then gateOfCredit (f c).state else u.gate } := by
  rw [LaneUnit.modHead, hq]
  cases hg : u.gate.inService <;> simp [LaneUnit.follow, hg, gateOfQueue]

theorem LaneUnit.startUnlock_eq (hq : u.queue = c :: cs) (now : Nat) :
    u.startUnlock now =
      { u with
        queue := { c with
          state := .unlocked, unlockStart := some now, unlockEnd := some (now + u.config.unlockWidth) } :: cs
        gate := if u.gate.inService then .unlocked else u.gate
        unlockOut := true } := by
  rw [LaneUnit.startUnlock, LaneUnit.modHead_cons hq]
  rfl

theorem LaneUnit.release_eq (hq : u.queue = c :: cs) (now : Nat) (slot : Option Nat) (earliest : Nat) :
    u.modHead (Credit.release now slot earliest) =
      { u with
        queue := c.release now slot earliest :: cs
        gate := if u.gate.inService then .released else u.gate } := LaneUnit.modHead_cons hq _

/-- A release whose unlock starts in the same event. -/
theorem LaneUnit.release_startUnlock (hq : u.queue = c :: cs) (now : Nat) (slot : Option Nat) (earliest : Nat) :
    (u.modHead (Credit.release now slot earliest)).startUnlock now =
      { u with
        queue := { c.release now slot earliest with
          state := .unlocked, unlockStart := some now, unlockEnd := some (now + u.config.unlockWidth) } :: cs
        gate := if u.gate.inService then .unlocked else u.gate
        unlockOut := true } := by
  have hreleased : GateState.released.inService = true := rfl
  rw [LaneUnit.release_eq hq, LaneUnit.startUnlock_eq rfl]
  cases hg : u.gate.inService <;> simp [hg, hreleased]

theorem LaneUnit.unlockDue_nil (hq : u.queue = []) : u.unlockDue now = false := by
  simp [LaneUnit.unlockDue, hq]

theorem LaneUnit.unlockDue_iff (hq : u.queue = c :: cs) :
    u.unlockDue now = true ↔
      c.state = .released ∧ u.tracker = .home ∧ ∃ e, c.earliestUnlock = some e ∧ e ≤ now := by
  simp [LaneUnit.unlockDue, hq, and_assoc, Option.any_eq_true]

/-- The unlock of a credit just released starts at once when its earliest unlock time has come at HOME. -/
theorem LaneUnit.release_unlockDue (hq : u.queue = c :: cs) (slot : Option Nat) (earliest : Nat) :
    (u.modHead (Credit.release now slot earliest)).unlockDue now = true ↔ earliest ≤ now ∧ u.tracker = .home := by
  rw [LaneUnit.release_eq hq, LaneUnit.unlockDue_iff rfl]
  simp [Credit.release, and_comm]

theorem LaneUnit.headHolding_nil (hq : u.queue = []) : u.headHolding = false := by
  simp [LaneUnit.headHolding, hq]

theorem LaneUnit.headHolding_cons (hq : u.queue = c :: cs) : u.headHolding = true ↔ c.state = .holding := by
  simp [LaneUnit.headHolding, hq]

end Head

section Release
variable {s : State} {i : LaneNo} {c : Credit} {cs : List Credit}

theorem State.tryUnlock_due (h : (s.lane i).unlockDue s.clock = true) :
    s.tryUnlock i = s.setLane i ((s.lane i).startUnlock s.clock) := if_pos h

theorem State.tryUnlock_notDue (h : (s.lane i).unlockDue s.clock ≠ true) : s.tryUnlock i = s := if_neg h

theorem State.freeRelease_none
    (h : ¬ ((s.lane i).headHolding = true ∧ s.pacer.lift = .running ∧ (s.lane i).tracker = .home)) :
    s.freeRelease i = s := if_neg h

/-- The FREE release starts its unlock in the same event (R137). -/
theorem State.freeRelease_holding (hq : (s.lane i).queue = c :: cs) (hc : c.state = .holding)
    (hlift : s.pacer.lift = .running) (ht : (s.lane i).tracker = .home) :
    s.freeRelease i =
      s.setLane i (((s.lane i).modHead (Credit.release s.clock none s.clock)).startUnlock s.clock) := by
  have hdue : ((s.modLane i fun u => u.modHead (Credit.release s.clock none s.clock)).lane i).unlockDue s.clock =
      true := by
    rw [State.modLane_lane, if_pos rfl]
    exact (LaneUnit.release_unlockDue hq _ _).mpr ⟨Nat.le_refl _, ht⟩
  rw [State.freeRelease, if_pos ⟨(LaneUnit.headHolding_cons hq).mpr hc, hlift, ht⟩, State.tryUnlock_due hdue,
    State.setLane_modLane, State.modLane_lane, if_pos rfl]
  rfl

/-! ### The release that waited for HOME (R92, R109, R137) -/

theorem State.homeRelease_due (hq : (s.lane i).queue = c :: cs) (hdue : (s.lane i).unlockDue s.clock = true) :
    s.homeRelease i = s.setLane i ((s.lane i).startUnlock s.clock) := by
  have hstarted : ¬ ((s.setLane i ((s.lane i).startUnlock s.clock)).lane i).headHolding = true := by
    rw [State.setLane_lane, if_pos rfl, LaneUnit.startUnlock_eq hq, LaneUnit.headHolding_cons rfl]
    exact CreditState.noConfusion
  rw [State.homeRelease, State.tryUnlock_due hdue, State.freeRelease_none fun h => hstarted h.1, ite_self]

theorem State.homeRelease_free (hq : (s.lane i).queue = c :: cs) (hc : c.state = .holding)
    (ht : (s.lane i).tracker = .home) (hmode : s.pacer.mode = .free) (hlift : s.pacer.lift = .running) :
    s.homeRelease i =
      s.setLane i (((s.lane i).modHead (Credit.release s.clock none s.clock)).startUnlock s.clock) := by
  have hno : (s.lane i).unlockDue s.clock ≠ true := fun h => by
    rw [LaneUnit.unlockDue_iff hq, hc] at h
    exact CreditState.noConfusion h.1
  rw [State.homeRelease, State.tryUnlock_notDue hno, if_pos hmode, State.freeRelease_holding hq hc hlift ht]

theorem State.homeRelease_none (hdue : (s.lane i).unlockDue s.clock ≠ true)
    (hfree : s.pacer.mode = .free →
      ¬ ((s.lane i).headHolding = true ∧ s.pacer.lift = .running ∧ (s.lane i).tracker = .home)) :
    s.homeRelease i = s := by
  rw [State.homeRelease, State.tryUnlock_notDue hdue]
  split
  · rename_i hmode
    exact State.freeRelease_none (hfree hmode)
  · rfl

end Release

end Sys2Proof.Machine

/-! ## The timers of the credits (R92, R93, R113, R114) -/

namespace Sys2Proof.Machine

/-! ### The credit an expiry of the credit life names -/

theorem lifeOf_eq_none {n : Nat} {q : List Credit} (h : ∀ c ∈ q, c.number = n → c.state ≠ .holding) (k : Nat) :
    lifeOf n q k = none := by
  induction q generalizing k with
  | nil => rfl
  | cons c cs ih =>
    have hc : ¬ (c.number = n ∧ c.state = .holding) := fun hc => h c List.mem_cons_self hc.1 hc.2
    rw [lifeOf, if_neg hc, ih fun d hd => h d (List.mem_cons_of_mem c hd)]

theorem lifeOf_eq_some {q : List Credit} {place t : Nat} {c : Credit} (hc : q[place]? = some c)
    (hstate : c.state = .holding) (hlife : c.lifeEnd = some t)
    (hfirst : ∀ k d, k < place → q[k]? = some d → d.number ≠ c.number) (k : Nat) :
    lifeOf c.number q k = some (k + place, t) := by
  induction q generalizing place k with
  | nil => cases hc
  | cons d ds ih =>
    cases place with
    | zero =>
      obtain rfl : d = c := Option.some.inj hc
      rw [lifeOf, if_pos ⟨rfl, hstate⟩, hlife]
      rfl
    | succ place =>
      have hne : d.number ≠ c.number := hfirst 0 d (Nat.succ_pos _) rfl
      rw [lifeOf, if_neg fun h => hne h.1, ih hc (fun j e hj => hfirst (j + 1) e (Nat.succ_lt_succ hj)), Nat.add_assoc,
        Nat.add_comm 1]

/-! ### The rows -/

section Rows
variable {s : State} {i : LaneNo} {n place t : Nat} {c : Credit} {cs : List Credit}

theorem exec_creditLifeExpiry_none (hrun : s.run = .running) (h : lifeOf n (s.lane i).queue 0 = none) :
    exec (.creditLifeExpiry i n) s = .next s := by
  show execCreditLifeExpiry i n s = _
  rw [execCreditLifeExpiry, whenRunning_running hrun, h]

theorem exec_creditLifeExpiry_some (hrun : s.run = .running) (h : lifeOf n (s.lane i).queue 0 = some (place, t)) :
    exec (.creditLifeExpiry i n) s =
      .next (if place = 0 then (s.waitUntil t).endHead i .expiredUnreleased
        else (s.waitUntil t).endCredit i place .expiredUnreleased) := by
  show execCreditLifeExpiry i n s = _
  rw [execCreditLifeExpiry, whenRunning_running hrun, h]

theorem exec_unlockStart_nil (hrun : s.run = .running) (hq : (s.lane i).queue = []) :
    exec (.unlockStart i) s = .next s := by
  show execUnlockStart i s = _
  rw [execUnlockStart, whenRunning_running hrun, hq]
  rfl

/-- The unlock start that comes no earlier than its time finds it due. -/
theorem exec_unlockStart_due (hrun : s.run = .running) (hq : (s.lane i).queue = c :: cs) (hc : c.state = .released)
    (ht : c.earliestUnlock = some t) (hhome : (s.lane i).tracker = .home) :
    exec (.unlockStart i) s = .next ((s.waitUntil t).setLane i ((s.lane i).startUnlock (max s.clock t))) := by
  have hdue : ((s.waitUntil t).lane i).unlockDue (s.waitUntil t).clock = true :=
    (LaneUnit.unlockDue_iff hq).mpr ⟨hc, hhome, t, ht, Nat.le_max_right _ _⟩
  show execUnlockStart i s = _
  rw [execUnlockStart, whenRunning_running hrun, hq]
  simp only [List.head?_cons, hc, ht, hhome, State.tryUnlock_due hdue, State.waitUntil_lane, State.waitUntil_clock]

theorem exec_unlockStart_none (hrun : s.run = .running) (hq : (s.lane i).queue = c :: cs)
    (h : c.state ≠ .released ∨ (s.lane i).tracker ≠ .home) : exec (.unlockStart i) s = .next s := by
  show execUnlockStart i s = _
  rw [execUnlockStart, whenRunning_running hrun, hq, List.head?_cons]
  dsimp only
  split
  · rename_i hc _ hhome
    exact (h.elim (· hc) (· hhome)).elim
  · rfl

theorem exec_unlockEnd_nil (hrun : s.run = .running) (hq : (s.lane i).queue = []) :
    exec (.unlockEnd i) s = .next s := by
  show execUnlockEnd i s = _
  rw [execUnlockEnd, whenRunning_running hrun, hq]
  rfl

theorem exec_unlockEnd_unlocked (hrun : s.run = .running) (hq : (s.lane i).queue = c :: cs) (hc : c.state = .unlocked)
    (ht : c.unlockEnd = some t) : exec (.unlockEnd i) s = .next ((s.waitUntil t).endHead i .expiredUnused) := by
  show execUnlockEnd i s = _
  rw [execUnlockEnd, whenRunning_running hrun, hq]
  simp only [List.head?_cons, hc, ht]

theorem exec_unlockEnd_passing (hrun : s.run = .running) (hq : (s.lane i).queue = c :: cs) (hc : c.state = .passing)
    (ht : c.unlockEnd = some t) :
    exec (.unlockEnd i) s = .next ((s.waitUntil t).setLane i (s.lane i).markEndPassed) := by
  show execUnlockEnd i s = _
  rw [execUnlockEnd, whenRunning_running hrun, hq]
  simp only [List.head?_cons, hc, ht]
  rfl

/-- The unlock of a head that is HOLDING or RELEASED has not begun (R92). -/
theorem exec_unlockEnd_notUnlocked (hrun : s.run = .running) (hq : (s.lane i).queue = c :: cs)
    (hc : c.state = .holding ∨ c.state = .released) : exec (.unlockEnd i) s = .next s := by
  show execUnlockEnd i s = _
  rw [execUnlockEnd, whenRunning_running hrun, hq]
  rcases hc with hc | hc <;> simp only [List.head?_cons, hc]

end Rows

/-- Settles O50: the credit life by `lifeOf`, the two unlock timers by the state of the head credit. -/
theorem creditTimersRunOut : Obligations.CreditTimersRunOut := by
  intro i s hrun
  refine ⟨fun n h => exec_creditLifeExpiry_none hrun (lifeOf_eq_none h 0), fun place c t hc hstate hlife hfirst => ?_,
    fun c cs hq => ⟨fun t hc ht hhome => ?_, exec_unlockStart_none hrun hq,
      fun t hc ht => exec_unlockEnd_unlocked hrun hq hc ht, fun t hc ht => exec_unlockEnd_passing hrun hq hc ht,
      exec_unlockEnd_notUnlocked hrun hq⟩,
    fun hq => ⟨exec_unlockStart_nil hrun hq, exec_unlockEnd_nil hrun hq⟩⟩
  · have hfound := lifeOf_eq_some hc hstate hlife hfirst 0
    rw [Nat.zero_add] at hfound
    exact exec_creditLifeExpiry_some hrun hfound
  · rw [exec_unlockStart_due hrun hq hc ht hhome, LaneUnit.startUnlock_eq hq]
    rfl

end Sys2Proof.Machine

/-! ## The return to HOME (R88, R109 to R112, R137) -/

namespace Sys2Proof.Machine

section Return
variable {s : State} {i : LaneNo} {r : Rotation} {u : LaneUnit} {c : Credit} {cs : List Credit}

/-! ### The clock stands still in the event -/

theorem State.tryUnlock_clock (s : State) (i : LaneNo) : (s.tryUnlock i).clock = s.clock := by
  rw [State.tryUnlock_eq, State.setLane_clock]

theorem State.homeRelease_clock (s : State) (i : LaneNo) : (s.homeRelease i).clock = s.clock := by
  rw [← s.tryUnlock_clock i]
  unfold State.homeRelease
  dsimp only
  split
  · obtain ⟨u, h⟩ := (s.tryUnlock i).freeRelease_eq i
    rw [h, State.setLane_clock]
  · rfl

theorem State.endHead_clock (s : State) (i : LaneNo) (o : CreditOutcome) : (s.endHead i o).clock = s.clock := by
  rw [State.endHead, State.offer_eq]
  exact (Ends.endCredit s i 0 o).clock

theorem State.countRotation_clock (s : State) (i : LaneNo) (left : Tracker) (r : Rotation) :
    (s.countRotation i left r).clock = s.clock := by
  unfold State.countRotation State.countBackout State.countUntagged
  dsimp only
  split_ifs <;> simp [State.raiseAt]

theorem State.backoutCredit_clock (s : State) (i : LaneNo) (r : Rotation) : (s.backoutCredit i r).clock = s.clock := by
  unfold State.backoutCredit
  split_ifs
  · exact s.endHead_clock i _
  · exact s.endHead_clock i _
  · exact s.endHead_clock i _
  · rfl

/-! ### The counts of a closed rotation record (R109 to R112) -/

theorem State.countUntagged_eq (s : State) (i : LaneNo) (cause : UntaggedCause) :
    s.countUntagged i cause =
      State.raise (State.append (s.modLane i fun v => { v with counts := { v.counts with
        tailgates := if cause = .tailgate then min (v.counts.tailgates + 1) 4294967295 else v.counts.tailgates
        forced := if cause = .forced then min (v.counts.forced + 1) 4294967295 else v.counts.forced } })
        (.untagged i cause)) (.atLane .untaggedRider i) := by
  cases cause <;> rfl

theorem LaneUnit.backoutPass_forced (h : r.kind = .forced) : u.backoutPass r = none := by
  rw [LaneUnit.backoutPass, h]

theorem LaneUnit.backoutPass_ended {n : Nat} (h : r.kind = .credited n) (hno : ∀ c ∈ u.queue, c.number ≠ n) :
    u.backoutPass r = none := by
  simpa [LaneUnit.backoutPass, h] using hno

theorem LaneUnit.backoutPass_head (h : r.kind = .credited c.number) (hq : u.queue = c :: cs) :
    u.backoutPass r = some c.pass := by
  simp [LaneUnit.backoutPass, h, hq]

theorem State.countBackout_lane (s : State) (i : LaneNo) (r : Rotation) :
    (s.countBackout i r).lane i =
      { s.lane i with counts := { (s.lane i).counts with backouts := satAdd (s.lane i).counts.backouts 1 } } := by
  simp [State.countBackout, State.raiseAt]

/-! ### What a backout does to the PASSING head (R88) -/

theorem State.backoutCredit_closing (hg : (s.lane i).gate = .closing) :
    s.backoutCredit i r = s.endHead i (.withdrawn .laneClosed) := if_pos hg

theorem State.backoutCredit_endPassed (hg : (s.lane i).gate ≠ .closing) (hr : r.endPassed = true) :
    s.backoutCredit i r = s.endHead i .expiredUnused := by
  rw [State.backoutCredit, if_neg hg, if_pos hr]

theorem State.backoutCredit_silent (hg : (s.lane i).gate ≠ .closing) (hr : r.endPassed = false)
    (hl : (s.lane i).link = .silent) : s.backoutCredit i r = s.endHead i (.withdrawn .laneSilent) := by
  rw [State.backoutCredit, if_neg hg, if_neg (by rw [hr]; decide), if_pos hl]

theorem State.backoutCredit_alive (hg : (s.lane i).gate ≠ .closing) (hr : r.endPassed = false)
    (hl : (s.lane i).link = .alive) (hq : (s.lane i).queue = c :: cs) :
    s.backoutCredit i r = s.modLane i fun v =>
      { v with
        queue := { c with state := .unlocked } :: cs, gate := if v.gate.inService then .unlocked else v.gate } := by
  rw [State.backoutCredit, if_neg hg, if_neg (by rw [hr]; decide), if_neg (by rw [hl]; decide)]
  exact State.modLane_congr (LaneUnit.modHead_cons hq _)

/-! ### The return -/

/-- The steps of R109 after the counts and the credit: the drained lane, the release that waited for HOME, the beam. -/
def State.afterReturn (s : State) (i : LaneNo) (now : Nat) : State :=
  ((s.modLane i LaneUnit.offIfDrained).homeRelease i).modLane i (LaneUnit.watchBeam now)

/-- The rotation record closed and counted at HOME. -/
def State.returned (s : State) (i : LaneNo) (r : Rotation) : State :=
  (s.modLane i LaneUnit.atHome).countRotation i (s.lane i).tracker r

theorem State.returnHome_eq (s : State) (i : LaneNo) (r : Rotation) :
    s.returnHome i r =
      (if (s.lane i).tracker = .awayFirst ∧ (s.lane i).passingHead = true then (s.returned i r).backoutCredit i r
      else s.returned i r).afterReturn i s.clock := by
  have hcounted : (s.returned i r).clock = s.clock := State.countRotation_clock ..
  simp only [State.returnHome, State.afterReturn, State.homeRelease_clock, State.modLane_clock, Bool.and_eq_true,
    decide_eq_true_eq]
  split_ifs
  · rw [State.backoutCredit_clock]
    exact congrArg (fun now => State.modLane _ i (LaneUnit.watchBeam now)) hcounted
  · exact congrArg (fun now => State.modLane _ i (LaneUnit.watchBeam now)) hcounted

theorem exec_returnToHome_ignored (ht : (s.lane i).tracker = .home ∨ (s.lane i).tracker = .notRead) :
    exec (.returnToHome i) s = .next s := by
  have haway : ¬ ((s.lane i).tracker = .awayFirst ∨ (s.lane i).tracker = .awaySecond) := by
    rcases ht with ht | ht <;> simp [ht]
  show execReturnToHome i s = _
  rw [execReturnToHome, whenRunning, if_neg haway, ite_self]

theorem exec_returnToHome_taken (hrun : s.run = .running) (hr : (s.lane i).rotation = some r)
    (ht : (s.lane i).tracker = .awayFirst ∨ (s.lane i).tracker = .awaySecond) :
    exec (.returnToHome i) s = .next (s.returnHome i r) := by
  show execReturnToHome i s = _
  rw [execReturnToHome, whenRunning_running hrun, if_pos ht, hr]

/-- A return from AWAY-SECOND is counted and touches no credit (R109). -/
theorem exec_returnToHome_second (hrun : s.run = .running) (hr : (s.lane i).rotation = some r)
    (ht : (s.lane i).tracker = .awaySecond) :
    exec (.returnToHome i) s = .next ((s.returned i r).afterReturn i s.clock) := by
  have hne : ¬ ((s.lane i).tracker = .awayFirst ∧ (s.lane i).passingHead = true) := by simp [ht]
  rw [exec_returnToHome_taken hrun hr (.inr ht), State.returnHome_eq, if_neg hne]

/-- A backout of another rotation than the PASSING head's touches no credit (R88). -/
theorem exec_returnToHome_first (hrun : s.run = .running) (hr : (s.lane i).rotation = some r)
    (ht : (s.lane i).tracker = .awayFirst) (hp : (s.lane i).passingHead = false) :
    exec (.returnToHome i) s = .next ((s.returned i r).afterReturn i s.clock) := by
  have hne : ¬ ((s.lane i).tracker = .awayFirst ∧ (s.lane i).passingHead = true) := by simp [hp]
  rw [exec_returnToHome_taken hrun hr (.inl ht), State.returnHome_eq, if_neg hne]

theorem exec_returnToHome_backout (hrun : s.run = .running) (hr : (s.lane i).rotation = some r)
    (ht : (s.lane i).tracker = .awayFirst) (hp : (s.lane i).passingHead = true) :
    exec (.returnToHome i) s = .next (((s.returned i r).backoutCredit i r).afterReturn i s.clock) := by
  rw [exec_returnToHome_taken hrun hr (.inl ht), State.returnHome_eq, if_pos ⟨ht, hp⟩]

theorem State.returned_second (ht : (s.lane i).tracker = .awaySecond) :
    s.returned i r =
      let forced := if r.committed then s.modLane i LaneUnit.atHome
        else (s.modLane i LaneUnit.atHome).countUntagged i .forced
      if 2 ≤ r.beamEntries then forced.countUntagged i .tailgate else forced := by
  rw [State.returned, ht]
  rfl

theorem State.returned_first (ht : (s.lane i).tracker = .awayFirst) :
    s.returned i r = (s.modLane i LaneUnit.atHome).countBackout i r := by
  rw [State.returned, ht]
  rfl

end Return

/-- Settles O47: `homeRelease` by the head credit it finds; a return by the tracker state it leaves, and a backout by
whose rotation it ends. -/
theorem returnsAreCounted : Obligations.ReturnsAreCounted := by
  refine ⟨fun i t => ⟨fun hq => ?_, fun c cs hq => ⟨fun hdue => ?_, fun hfree => ?_, fun hdue hfree => ?_⟩⟩,
    fun i s => exec_returnToHome_ignored, ?_⟩
  · exact State.homeRelease_none (by rw [LaneUnit.unlockDue_nil hq]; decide)
      fun _ h => absurd h.1 (by rw [LaneUnit.headHolding_nil hq]; decide)
  · rw [State.homeRelease_due hq ((LaneUnit.unlockDue_iff hq).mpr hdue), LaneUnit.startUnlock_eq hq]
  · obtain ⟨hc, hhome, hmode, hlift⟩ := hfree
    rw [State.homeRelease_free hq hc hhome hmode hlift, LaneUnit.release_startUnlock hq]
    rfl
  · exact State.homeRelease_none (mt (LaneUnit.unlockDue_iff hq).mp hdue)
      fun hmode ⟨hh, hlift, hhome⟩ => hfree ⟨(LaneUnit.headHolding_cons hq).mp hh, hhome, hmode, hlift⟩
  · intro i s r hrun hr u home untagged backout finish run
    have hfinish : ∀ t : State, .next (t.afterReturn i s.clock) = finish t := fun _ => rfl
    have huntagged : ∀ (t : State) cause, t.countUntagged i cause = untagged t cause := fun t => t.countUntagged_eq i
    have hbackout : ∀ pass, u.backoutPass r = pass → u.tracker = .awayFirst → s.returned i r = backout pass := by
      rintro _ rfl ht
      rw [State.returned_first ht, State.countBackout, State.modLane_lane, if_pos rfl]
      rfl
    refine ⟨fun ht => ?_, fun ht hk => ?_, fun ht n hk hno => ?_, fun ht c cs hq hk hc => ?_⟩
    · intro forced
      have hforced : (if r.committed then s.modLane i LaneUnit.atHome
          else (s.modLane i LaneUnit.atHome).countUntagged i .forced) = forced := by rw [huntagged]; rfl
      rw [← huntagged, ← hforced, ← State.returned_second ht, ← hfinish]
      exact exec_returnToHome_second hrun hr ht
    · have hp : u.passingHead = false := Bool.eq_false_iff.mpr fun h => by
        obtain ⟨d, ds, -, -, hkind⟩ := LaneUnit.passingHead_iff.mp h
        rw [hr, Option.map_some, hk] at hkind
        exact RotationKind.noConfusion (Option.some.inj hkind)
      rw [← hfinish, ← hbackout none (LaneUnit.backoutPass_forced hk) ht]
      exact exec_returnToHome_first hrun hr ht hp
    · have hp : u.passingHead = false := Bool.eq_false_iff.mpr fun h => by
        obtain ⟨d, ds, hq, -, hkind⟩ := LaneUnit.passingHead_iff.mp h
        rw [hr, Option.map_some, hk] at hkind
        exact hno d (by rw [hq]; exact List.mem_cons_self) (RotationKind.credited.inj (Option.some.inj hkind)).symm
      rw [← hfinish, ← hbackout none (LaneUnit.backoutPass_ended hk hno) ht]
      exact exec_returnToHome_first hrun hr ht hp
    · have hp : u.passingHead = true :=
        LaneUnit.passingHead_iff.mpr ⟨c, cs, hq, hc, by rw [hr, Option.map_some, hk]⟩
      have hlane : (s.returned i r).lane i =
          { u.atHome with counts := { u.counts with backouts := satAdd u.counts.backouts 1 } } := by
        rw [State.returned_first ht, State.countBackout_lane, State.modLane_lane, if_pos rfl]
        rfl
      intro counted
      have hcounted : s.returned i r = counted := hbackout _ (LaneUnit.backoutPass_head hk hq) ht
      have hrunning := exec_returnToHome_backout hrun hr ht hp
      simp only [← hfinish, ← hcounted]
      refine ⟨fun hg => ?_, fun hg he => ?_, fun hg he hl => ?_, fun hg he hl => ?_⟩
      · rw [← State.backoutCredit_closing (r := r) (by rw [hlane]; exact hg)]
        exact hrunning
      · rw [← State.backoutCredit_endPassed (by rw [hlane]; exact hg) he]
        exact hrunning
      · rw [← State.backoutCredit_silent (by rw [hlane]; exact hg) he (by rw [hlane]; exact hl)]
        exact hrunning
      · rw [← State.backoutCredit_alive (by rw [hlane]; exact hg) he (by rw [hlane]; exact hl)
          (by rw [hlane]; exact hq)]
        exact hrunning

end Sys2Proof.Machine

/-! ## Taken frames and the lane number of a request (R75, R97, R172, R173) -/

namespace Sys2Proof.Machine

section Taken
variable {s : State} {l : LinkNo} {i : LaneNo} {code tag n : Nat} {c : Instr} {act : LaneNo → State → State × Answer}

theorem laneOf_outOfRange (h : 5 < n) : laneOf n = none := by simp [laneOf, Nat.not_lt_of_le h]

/-- A request of R178 on a link whose role may not make it is not acted on (R173). -/
theorem exec_refused {act : State → State × Answer} (hc : requestAction c = some (l, code, tag, act)) (ht : Takes s l)
    (hcode : (bodyLength code).isSome = true) (hrole : roleMay code (roleOf l) = false) :
    exec c s = .next (s.answered l code tag .refusedRole) := by
  obtain ⟨hrun, hdriver, hslot⟩ := ht
  rw [exec_requestAction hc]
  rcases takeFrame_cases l code tag act s with
    ⟨h | h, -⟩ | ⟨-, -, ⟨now, h, -⟩ | ⟨-, ⟨h, -⟩ | ⟨-, -, h⟩ | ⟨-, h, -⟩⟩⟩
  · exact absurd hrun h
  · simp [hdriver] at h
  · simp [hslot] at h
  · simp [h] at hcode
  · exact h
  · simp [hrole] at h

/-- The requests with a code above 32 are the console's alone (R178). -/
theorem roleMay_high (hcode : 32 < code) (r : Role) : roleMay code r = (r == .console) := by
  rw [roleMay, if_neg (by omega), if_neg (by omega), if_neg (by omega), if_neg (by omega)]

theorem roleOf_ne_console (hl : l ≠ consoleLink) : roleOf l ≠ .console := by
  have hlt := l.isLt
  have hne : l.val ≠ 7 := fun h => hl (Fin.ext h)
  unfold roleOf
  split_ifs
  · decide
  · decide
  · omega

/-- A request on a lane, on the console link. -/
theorem exec_onLane (hc : requestAction c = some (consoleLink, code, tag, onLane i.val act)) (ht : Takes s consoleLink)
    (hcode : (bodyLength code).isSome = true) (hrole : roleMay code .console = true) :
    exec c s = .next ((act i (s.taken consoleLink)).1.reply consoleLink code tag (act i (s.taken consoleLink)).2) := by
  rw [exec_taken hc ht hcode hrole, onLane, laneOf_val]

/-- A request whose lane number is out of range, or that comes on another link than the console's. -/
theorem exec_onLane_refused (hc : requestAction c = some (l, code, tag, onLane n act)) (ht : Takes s l)
    (hcode : (bodyLength code).isSome = true) (hhigh : 32 < code) {a : Answer}
    (h : (l = consoleLink ∧ 5 < n ∧ a = .outOfRange) ∨ (l ≠ consoleLink ∧ a = .refusedRole)) :
    exec c s = .next (s.answered l code tag a) := by
  rcases h with ⟨rfl, hn, rfl⟩ | ⟨hl, rfl⟩
  · have hrole : roleMay code (roleOf consoleLink) = true := roleMay_high hhigh _
    rw [exec_taken hc ht hcode hrole, onLane, laneOf_outOfRange hn]
    rfl
  · refine exec_refused hc ht hcode ?_
    rw [roleMay_high hhigh]
    exact beq_eq_false_iff_ne.mpr (roleOf_ne_console hl)

end Taken

/-- Settles O7: a lane link is one whose number names a lane; on the others the lanes stay as they are. -/
theorem takenFrameChangesItsLinkOnly : Obligations.TakenFrameChangesItsLinkOnly := by
  intro s l code tag a
  have hlinks : (s.taken l).links.set l (Endpoint.pushAnswer code tag a ((s.taken l).link l)) =
      s.links.set l { s.links.get l with
        receiver := .idle
        slot := some (code, tag)
        output := (s.links.get l).output ++ [{ code := code, tag := tag, answer := a, begun := false }] } := by
    rw [State.taken_link, if_pos rfl, State.taken_eq, Eight.set_set]
    rfl
  have hoffice : ((s.taken l).openFiller l).office =
      if l = officeLink ∧ (s.links.get l).output = [] then { s.office with fillerOpen := true } else s.office := by
    have houtput : ((s.taken l).link l).output = (s.links.get l).output := by rw [State.taken_link, if_pos rfl]; rfl
    rw [State.openFiller, houtput, State.taken_eq]
    split <;> rfl
  rw [State.answered, State.reply_eq, hlinks, hoffice, State.taken_eq]
  by_cases hl : l.val < 6
  · rw [dif_pos hl, show laneOfLink l = some ⟨l.val, hl⟩ from dif_pos hl]
    rfl
  · rw [dif_neg hl, show laneOfLink l = none from dif_neg hl]

/-- Settles O41: the five requests by `exec_onLane_refused`, LANE STATUS by the link that carries it. -/
theorem laneRequestsNameALane : Obligations.LaneRequestsNameALane := by
  intro l tag n config s ht
  refine ⟨fun a h => ⟨exec_onLane_refused rfl ht rfl (by decide) h, exec_onLane_refused rfl ht rfl (by decide) h,
    exec_onLane_refused rfl ht rfl (by decide) h, exec_onLane_refused rfl ht rfl (by decide) h,
    exec_onLane_refused rfl ht rfl (by decide) h⟩, fun hl => ?_, ?_⟩
  · have hrole : roleMay 2 (roleOf l) = false := by rcases office_or_console hl with rfl | rfl <;> rfl
    exact exec_refused (c := .laneStatus l tag) rfl ht rfl hrole
  · rintro i rfl
    have hstatus : ((s.taken (linkOfLane i)).lane i).status = (s.lane i).status := by
      rw [State.taken_lane_self]
      rfl
    rw [exec_taken_linkLane (c := .laneStatus (linkOfLane i) tag) rfl ht rfl rfl]
    exact congrArg (fun a => Host.Outcome.next (s.answered (linkOfLane i) 2 tag a)) hstatus

end Sys2Proof.Machine

/-! ## CLEAR LANE and CONFIGURE LANE (R77, R78, R82, R96) -/

namespace Sys2Proof.Machine

section Requests
variable {s : State} {i : LaneNo} {c : LaneConfig}

theorem clamp_eq {lo hi v : Nat} (h : lo ≤ hi) : clamp lo hi v = max lo (min v hi) := by
  unfold clamp
  split_ifs <;> omega

/-- The limits of R77 written out, each beam level against the one stored before it. -/
theorem clampConfig_eq (c : LaneConfig) :
    clampConfig c =
      let broken := min c.brokenLevel 4095
      let clear := max (broken + 1) (min c.clearLevel 4096)
      { settleTime := max 10 (min c.settleTime 2000), unlockWidth := max 1000 (min c.unlockWidth 10000)
        creditLife := max 5 (min c.creditLife 120), silenceLimit := max 1 (min c.silenceLimit 30)
        passageLimit := max 2 (min c.passageLimit 60), brokenLevel := broken, clearLevel := clear
        faultLevel := max (clear + 1) (min c.faultLevel 4097), blockedLimit := max 1 (min c.blockedLimit 60) } := by
  have hbroken : clamp 0 4095 c.brokenLevel = min c.brokenLevel 4095 := by rw [clamp_eq (Nat.zero_le _), Nat.zero_max]
  have hclear : clamp (min c.brokenLevel 4095 + 1) 4096 c.clearLevel =
      max (min c.brokenLevel 4095 + 1) (min c.clearLevel 4096) := clamp_eq (by omega)
  have hfault : clamp (max (min c.brokenLevel 4095 + 1) (min c.clearLevel 4096) + 1) 4097 c.faultLevel =
      max (max (min c.brokenLevel 4095 + 1) (min c.clearLevel 4096) + 1) (min c.faultLevel 4097) := clamp_eq (by omega)
  simp only [clampConfig, hbroken, hclear, hfault]
  simp [clamp_eq]

theorem LaneUnit.store_eq (now : Nat) (c : LaneConfig) (u : LaneUnit) :
    u.store now c =
      { u with
        config := c, silenceEnd := if u.silenceEnd = none then none else some (now + c.silenceLimit * 1000) } := by
  cases h : u.silenceEnd <;> simp [LaneUnit.store, h]

theorem clearLane_fault (hg : (s.lane i).gate = .fault) :
    clearLane i s = (s.setLane i ((s.lane i).toSettling s.clock), .laneCleared .settling) := if_pos hg

theorem clearLane_noFault (hg : (s.lane i).gate ≠ .fault) :
    clearLane i s = (s, .laneCleared (s.lane i).gate) := if_neg hg

theorem configureLane_stored (hg : (s.lane i).gate = .off ∨ (s.lane i).gate = .fault) :
    configureLane c i s =
      (s.setLane i ((s.lane i).store s.clock (clampConfig c)), .configured (clampConfig c) (s.lane i).gate) := by
  rcases hg with hg | hg <;> rw [configureLane, hg] <;> rfl

/-- The settle timer restarts with the settle time just stored (R78). -/
theorem configureLane_settling (hg : (s.lane i).gate = .settling ∨ (s.lane i).gate = .ready) :
    configureLane c i s =
      (s.setLane i (((s.lane i).store s.clock (clampConfig c)).toSettling s.clock),
        .configured (clampConfig c) .settling) := by
  have hsettled : (s.modLane i (LaneUnit.store s.clock (clampConfig c))).modLane i (LaneUnit.toSettling s.clock) =
      s.setLane i (((s.lane i).store s.clock (clampConfig c)).toSettling s.clock) := by
    rw [State.modLane_modLane]
    rfl
  rw [← hsettled]
  rcases hg with hg | hg <;> rw [configureLane, hg]

theorem configureLane_busy (hg : (s.lane i).gate = .holding ∨ (s.lane i).gate = .released ∨
      (s.lane i).gate = .unlocked ∨ (s.lane i).gate = .passing ∨ (s.lane i).gate = .closing) :
    configureLane c i s = (s, .laneBusy (s.lane i).queue.length) := by
  rcases hg with hg | hg | hg | hg | hg <;> rw [configureLane, hg, configureLane.busy]

end Requests

/-- Settles O43: the two requests by the gate state they find. -/
theorem clearAndConfigureLane : Obligations.ClearAndConfigureLane := by
  intro tag i c s ht t u settling broken clear stored kept configured
  have hstored : clampConfig c = stored := clampConfig_eq c
  have hkept : u.store s.clock stored = kept := LaneUnit.store_eq ..
  have hclear := exec_onLane (c := .clearLane consoleLink tag i.val) (i := i) rfl ht rfl rfl
  have hconfigure := exec_onLane (c := .configureLane consoleLink tag i.val c) (i := i) rfl ht rfl rfl
  refine ⟨fun hg => ?_, fun hg => ?_, fun hg => ?_, fun hg => ?_, fun hg => ?_⟩
  · rw [hclear, clearLane_fault (s := t) hg]
    rfl
  · rw [hclear, clearLane_noFault (s := t) hg]
    rfl
  · show exec _ s = _
    rw [hconfigure, configureLane_stored (s := t) hg, hstored, ← hkept]
    rfl
  · show exec _ s = _
    rw [hconfigure, configureLane_settling (s := t) hg, hstored, ← hkept]
    rfl
  · rw [hconfigure, configureLane_busy (s := t) hg]
    rfl

end Sys2Proof.Machine

/-! ## OPEN LANE and CLOSE LANE (R81, R83, R84, R101) -/

namespace Sys2Proof.Machine

/-! ### The lane of withdrawals, whatever the day state -/

theorem LaneUnit.offIfDrained_of_ne {u : LaneUnit} (h : u.gate ≠ .closing) : u.offIfDrained = u :=
  if_neg fun hc => h hc.1

theorem LaneUnit.offIfDrained_closing (u : LaneUnit) :
    LaneUnit.offIfDrained { u with gate := .closing } =
      if u.queue = [] ∧ u.tracker = .home then u.toOff else { u with gate := .closing } := by
  simp only [LaneUnit.offIfDrained, true_and]
  rfl

/-- In service the end of a credit leaves the sensors alone, and the lane in service (R80, R84). -/
theorem LaneUnit.ended_inService {u : LaneUnit} (h : u.gate.inService = true) (place : Nat) (c : Credit)
    (o : CreditOutcome) : (u.ended place c o).gate.inService = true ∧ (u.ended place c o).tracker = u.tracker := by
  have hgate : (u.ended place c o).gate.inService = true := by
    rw [LaneUnit.ended_gate _ _ _ h]
    exact gateOfQueue_inService _
  refine ⟨hgate, ?_⟩
  have hstay : (LaneUnit.follow
      { u.dequeue place c with counts := u.counts.countOutcome o, lastEnded := some (c.number, o) }).gate ≠
        .closing := by
    rw [LaneUnit.follow_inService (by exact h)]
    intro hclosing
    have hservice := gateOfQueue_inService (u.dequeue place c).queue
    rw [show gateOfQueue (u.dequeue place c).queue = .closing from hclosing] at hservice
    cases hservice
  rw [LaneUnit.ended, LaneUnit.offIfDrained_of_ne hstay, LaneUnit.follow_inService (by exact h)]
  rfl

/-- The withdrawals of one event end the credits it names, keep a property that each end keeps, and leave the other
lanes as they were. -/
theorem State.withdraw_lane {Q : LaneUnit → Prop} {i : LaneNo} (cause : Cause) (which : Credit → Bool)
    (hQ : ∀ u place c, Q u → Q (u.ended place c (.withdrawn cause))) (s : State) (h : Q (s.lane i)) :
    Q ((s.withdraw i cause which).lane i) ∧
      ((s.withdraw i cause which).lane i).queue = (s.lane i).queue.filter (fun c => !which c) ∧
      ∀ j, j ≠ i → (s.withdraw i cause which).lane j = s.lane j := by
  have key : ∀ (q kept : List Credit) (t : State), Q (t.lane i) → (t.lane i).queue = kept ++ q →
      let r := withdrawFrom i cause which q kept.length t
      Q (r.lane i) ∧ (r.lane i).queue = kept ++ q.filter (fun c => !which c) ∧ ∀ j, j ≠ i → r.lane j = t.lane j := by
    intro q
    induction q with
    | nil => exact fun kept t ht hq => ⟨ht, hq, fun _ _ => rfl⟩
    | cons c cs ih =>
      intro kept t ht hq
      unfold withdrawFrom
      split
      · rename_i hc
        have hget : (t.lane i).queue[kept.length]? = some c := by simp [hq]
        have hlane := State.endCredit_lane (o := .withdrawn cause) hget
        have hself := (hlane i).trans (if_pos rfl)
        have hqueue : ((t.endCredit i kept.length (.withdrawn cause)).lane i).queue = kept ++ cs := by
          rw [hself, LaneUnit.ended_queue, hq, List.eraseIdx_append_of_length_le (Nat.le_refl _), Nat.sub_self]
          rfl
        obtain ⟨hkept, hrest, helse⟩ := ih kept _ (by rw [hself]; exact hQ _ _ _ ht) hqueue
        refine ⟨hkept, ?_, fun j hj => ?_⟩
        · rw [hrest, List.filter_cons_of_neg (by simp [hc])]
        · rw [helse j hj, hlane j, if_neg hj]
      · rename_i hc
        have hstep := ih (kept ++ [c]) t ht (by simp [hq])
        rw [List.length_append, List.length_singleton, List.append_assoc] at hstep
        rw [List.filter_cons_of_pos (by simpa using hc)]
        exact hstep
  exact key _ [] s h rfl

section Requests
variable {s : State} {i : LaneNo}

/-! ### OPEN LANE -/

theorem openLane_off (hg : (s.lane i).gate = .off) :
    openLane i s =
      (s.setLane i { (s.lane i).toSettling s.clock with
        silenceEnd := some (s.clock + (s.lane i).config.silenceLimit * 1000) }, .laneOpened .settling none) := by
  rw [openLane, hg]
  rfl

theorem openLane_settling (hg : (s.lane i).gate = .settling) : openLane i s = (s, .laneOpened .settling none) := by
  rw [openLane, hg]

theorem openLane_closing (hg : (s.lane i).gate = .closing) :
    openLane i s =
      ((s.setLane i { s.lane i with gate := gateOfQueue (s.lane i).queue }).raiseAt .laneReady i,
        .laneOpened .ready none) := by
  rw [openLane, hg]
  rfl

theorem openLane_fault (hg : (s.lane i).gate = .fault) :
    openLane i s = (s, .laneOpened .fault (s.lane i).fault) := by
  rw [openLane, hg]

theorem openLane_inService (hg : (s.lane i).gate.inService = true) : openLane i s = (s, .laneOpened .ready none) := by
  cases hgate : (s.lane i).gate
  case ready | holding | released | unlocked | passing => rw [openLane, hgate]
  case off | settling | closing | fault => simp [hgate, GateState.inService] at hg

/-! ### CLOSE LANE -/

theorem closeLane_off (hg : (s.lane i).gate = .off) : closeLane i s = (s, .laneClosed .off none) := by
  rw [closeLane, hg]

theorem closeLane_toOff (hg : (s.lane i).gate = .settling ∨ (s.lane i).gate = .fault) :
    closeLane i s = (s.setLane i (s.lane i).toOff, .laneClosed .off none) := by
  rcases hg with hg | hg <;> rw [closeLane, hg] <;> rfl

theorem closeLane_closing (hg : (s.lane i).gate = .closing) :
    closeLane i s = (s, .laneClosed .closing (some (s.lane i).queue.length)) := by
  rw [closeLane, hg]

theorem closeLane_inService (hg : (s.lane i).gate.inService = true) :
    closeLane i s =
      (s.closeInService i,
        .laneClosed ((s.closeInService i).lane i).gate (some ((s.lane i).queue.countP Credit.notPassing))) := by
  cases hgate : (s.lane i).gate
  case ready | holding | released | unlocked | passing =>
    rw [closeLane, hgate]
    rfl
  case off | settling | closing | fault => simp [hgate, GateState.inService] at hg

/-- Whether CLOSE LANE takes a lane in service to OFF: no credit left, the rotor at HOME and no leave waiting (R83,
R101; log 30). -/
def State.closesToOff (s : State) (i : LaneNo) : Bool :=
  ((s.lane i).queue.filter fun c => decide (c.state = .passing)) = [] && (s.lane i).tracker = .home && !s.leaveWaits i

/-- The lane after the withdrawals of CLOSE LANE: the PASSING credits are left, the rotor is where it was. -/
theorem State.withdraw_closed (hg : (s.lane i).gate.inService = true) :
    let w := s.withdraw i .laneClosed Credit.notPassing
    (w.lane i).queue = ((s.lane i).queue.filter fun c => decide (c.state = .passing)) ∧
      (w.lane i).tracker = (s.lane i).tracker ∧ ∀ j, j ≠ i → w.lane j = s.lane j := by
  obtain ⟨⟨-, htracker⟩, hqueue, helse⟩ := State.withdraw_lane .laneClosed Credit.notPassing
    (Q := fun u => u.gate.inService = true ∧ u.tracker = (s.lane i).tracker)
    (fun u place c ⟨hu, ht⟩ => by
      obtain ⟨hservice, hstill⟩ := LaneUnit.ended_inService hu place c (.withdrawn .laneClosed)
      exact ⟨hservice, hstill.trans ht⟩) s ⟨hg, rfl⟩
  refine ⟨?_, htracker, helse⟩
  rw [hqueue]
  exact congrArg (fun f => (s.lane i).queue.filter f) (funext fun c => by simp [Credit.notPassing])

theorem State.closeInService_eq (hg : (s.lane i).gate.inService = true) :
    s.closeInService i = (s.withdraw i .laneClosed Credit.notPassing).modLane i fun v =>
      if s.closesToOff i then v.toOff else { v with gate := .closing } := by
  obtain ⟨hqueue, htracker, -⟩ := State.withdraw_closed hg
  unfold State.closeInService
  refine State.modLane_congr ?_
  dsimp only
  rw [LaneUnit.offIfDrained_closing, State.closesToOff, ← hqueue, ← htracker]
  cases s.leaveWaits i <;> simp

theorem State.closeInService_gate (hg : (s.lane i).gate.inService = true) :
    ((s.closeInService i).lane i).gate = if s.closesToOff i then .off else .closing := by
  rw [State.closeInService_eq hg, State.modLane_lane, if_pos rfl]
  split <;> rfl

end Requests

/-- Settles O42: the two requests by the gate state they find; in service the withdrawals decide between OFF and
CLOSING, and a leave that waits then finds a CLOSING lane (R101; log 30). -/
theorem openAndCloseLane : Obligations.OpenAndCloseLane := by
  intro tag i s ht t u opens closes off
  have hopen : ∀ v a, openLane i t = (v, a) → opens v a := fun v a h => by
    have hrun := exec_onLane (c := .openLane consoleLink tag i.val) (i := i) rfl ht rfl rfl
    rw [h] at hrun
    exact hrun
  have hclose : ∀ v a, closeLane i t = (v, a) → closes v a := fun v a h => by
    have hrun := exec_onLane (c := .closeLane consoleLink tag i.val) (i := i) rfl ht rfl rfl
    rw [h] at hrun
    exact hrun
  refine ⟨fun hg => ⟨hopen _ _ (openLane_off hg), hclose _ _ (closeLane_off hg)⟩,
    fun hg => ⟨hopen _ _ (openLane_settling hg), hclose _ _ (closeLane_toOff (.inl hg))⟩,
    fun hg => ⟨hopen _ _ (openLane_fault hg), hclose _ _ (closeLane_toOff (.inr hg))⟩,
    fun hg => ⟨hopen _ _ (openLane_closing hg), hclose _ _ (closeLane_closing hg)⟩,
    fun hg => ⟨hopen _ _ (openLane_inService hg), ?_⟩⟩
  intro w left
  have hservice : (t.lane i).gate.inService = true := hg
  obtain ⟨hqueue, htracker, helse⟩ := State.withdraw_closed hservice
  refine ⟨hqueue, htracker, helse, ?_⟩
  intro leaves goesOff
  have hgoesOff : t.closesToOff i = goesOff := rfl
  have hclosed : closes (w.modLane i fun v => if goesOff then off v else { v with gate := .closing })
      (.laneClosed (if goesOff then .off else .closing) (some (u.queue.countP Credit.notPassing))) :=
    hclose _ _ (by 
      rw [closeLane_inService hservice, State.closeInService_gate hservice, State.closeInService_eq hservice, hgoesOff]
      rfl)
  refine ⟨hclosed, fun hleaves hhome => ⟨_, _, hclosed, exec_rotorLeave ?_, ?_⟩⟩
  · rw [State.reply_run, State.modLane_run, (Ends.withdraw t i _ _).run]
    exact ht.1
  · have hstays : goesOff = false := by simp [goesOff, hleaves]
    have hleave := LaneUnit.leave_forced (u := { w.lane i with gate := .closing }) (now := s.clock)
      (htracker.trans hhome) (by simp)
    have hclock : w.clock = s.clock := (Ends.withdraw t i _ _).clock
    simp only [hstays, Bool.false_eq_true, if_false, State.reply_lane, State.reply_clock, State.modLane_lane,
      State.modLane_clock, State.setLane_lane, if_true, hclock, hleave]
    refine ⟨rfl, rfl, ?_⟩
    rw [LaneUnit.leaveRecord_forced (by simp)]
    rfl

end Sys2Proof.Machine

/-! ## Warm starts (R102, R181 to R185) -/

namespace Sys2Proof.Machine

/-- A list without TENTATIVE entries holds FINAL entries alone (R23). -/
theorem tentatives_eq_zero {us : List DayUse} : tentatives us = 0 ↔ ∀ x ∈ us, x.status = .final := by
  rw [tentatives, List.countP_eq_zero]
  refine forall₂_congr fun x _ => ?_
  cases x.status <;> decide

/-- Steps 4 and 5 of R183 on a record. -/
theorem Pass.restart_eq (p : Pass) :
    p.restart =
      { p with
        uses := p.uses.filter fun x => decide (x.status = .final)
        generation := if ∀ x ∈ p.uses, x.status = .final then p.generation else (p.generation + 1) % 65536
        holdEnd := none } := by
  simp only [Pass.restart, removeTentative_eq, tentatives_eq_zero]
  rfl

/-- What a warm start accounts for: day state, credits and TENTATIVE entries (R183 step 1). -/
theorem State.accounted_warm (s : State) (cause : StartCause) :
    s.accounted .warm cause = (some s.day, s.credits.length, (s.passes.map fun p => tentatives p.uses).sum) := by
  rw [← s.queued_eq_length_credits]
  rfl

/-- A warm start runs steps 3 to 13 of R183 on the memory as it is. -/
theorem State.start_warm (s : State) (cause : StartCause) :
    s.start .warm cause =
      (s.restart .warm cause (s.accounted .warm cause)).append
        (.start .warm cause (s.accounted .warm cause).2.1 (s.accounted .warm cause).2.2) := rfl

/-- Settles O52: RESET and power with RETAIN_OK active take the same warm start. -/
theorem warmStartsKeepTheRetainedMemory : Obligations.WarmStartsKeepTheRetainedMemory := by
  intro s removed warm
  have hwarm : ∀ cause, s.start .warm cause = warm cause := fun cause => by
    rw [State.start_warm, State.accounted_warm, State.restart, funext Pass.restart_eq]
    rfl
  refine ⟨fun hr => ?_, fun hr => ?_, fun hr => ?_⟩
  · show execResetReleased s = _
    rw [execResetReleased, hr, ← hwarm]
  · show execPowerUp true s = _
    rw [execPowerUp, hr, ← hwarm]
    rfl
  · show execResetReleased s = _
    rw [execResetReleased, hr, ← hwarm]
    rfl

end Sys2Proof.Machine

/-! ## Offers and release arbitration (R69, R92, R135 to R137) -/

namespace Sys2Proof.Machine

/-! ### The lane that is next (R135) -/

theorem earlier_cases (a b : Option (Nat × LaneNo)) : earlier a b = a ∨ earlier a b = b := by
  unfold earlier
  split
  · split
    · exact .inr rfl
    · exact .inl rfl
  · exact .inr rfl
  · exact .inl rfl

/-- An earlier grant than what was chosen before is chosen. -/
theorem earlier_of_lt {a : Option (Nat × LaneNo)} {x : Nat × LaneNo} (h : ∀ y ∈ a, x.1 < y.1) :
    earlier a (some x) = some x := by
  cases a with
  | none => rfl
  | some y => exact if_pos (h y rfl)

/-- What was chosen before stays unless a grant is earlier. -/
theorem earlier_of_le {x : Nat × LaneNo} {b : Option (Nat × LaneNo)} (h : ∀ y ∈ b, x.1 ≤ y.1) :
    earlier (some x) b = some x := by
  cases b with
  | none => rfl
  | some y => exact if_neg (Nat.not_lt_of_le (h y rfl))

theorem foldl_earlier_lt {n : Nat} {xs : List (Option (Nat × LaneNo))} (hxs : ∀ o ∈ xs, ∀ y ∈ o, n < y.1)
    {a : Option (Nat × LaneNo)} (ha : ∀ y ∈ a, n < y.1) : ∀ y ∈ xs.foldl earlier a, n < y.1 := by
  induction xs generalizing a with
  | nil => exact ha
  | cons o xs ih =>
    refine ih (fun p hp => hxs p (List.mem_cons_of_mem o hp)) ?_
    rcases earlier_cases a o with e | e <;> rw [e]
    · exact ha
    · exact hxs o List.mem_cons_self

theorem foldl_earlier_le {x : Nat × LaneNo} {xs : List (Option (Nat × LaneNo))} (hxs : ∀ o ∈ xs, ∀ y ∈ o, x.1 ≤ y.1) :
    xs.foldl earlier (some x) = some x := by
  induction xs with
  | nil => rfl
  | cons o xs ih =>
    rw [List.foldl_cons, earlier_of_le (hxs o List.mem_cons_self)]
    exact ih fun p hp => hxs p (List.mem_cons_of_mem o hp)

section Arbitration
variable {s : State} {i : LaneNo} {k : Slot} {u : LaneUnit} {c : Credit} {cs : List Credit} {t : Nat}

/-- A lane as the arbitration looks at it: the grant time of its HOLDING head, if it has one (R135). -/
def State.candidate (s : State) (j : LaneNo) : Option (Nat × LaneNo) := (s.lane j).waitingSince.map fun n => (n, j)

theorem State.nextLane_eq_candidates (s : State) :
    s.nextLane = ((allLanes.map s.candidate).foldl earlier none).map Prod.snd := rfl

/-- The lane with the earliest grant of all HOLDING heads is next, the lower one on equal times. -/
theorem State.nextLane_eq (h : (s.lane i).waitingSince = some t)
    (hfirst : ∀ j n, (s.lane j).waitingSince = some n → t < n ∨ (t = n ∧ i.val ≤ j.val)) : s.nextLane = some i := by
  have hcandidate : ∀ j, ∀ y ∈ s.candidate j, t < y.1 ∨ (t = y.1 ∧ i.val ≤ j.val) := by
    intro j y hy
    obtain ⟨n, hn, rfl⟩ := Option.map_eq_some_iff.mp hy
    exact hfirst j n hn
  obtain ⟨before, after, hsplit⟩ := List.append_of_mem (mem_allLanes i)
  have horder : (before ++ i :: after).Pairwise fun a b => a.val < b.val := hsplit ▸ (by decide)
  have hbefore : ∀ o ∈ before.map s.candidate, ∀ y ∈ o, t < y.1 := by
    intro o ho y hy
    obtain ⟨j, hj, rfl⟩ := List.mem_map.mp ho
    have hlower := (List.pairwise_append.mp horder).2.2 j hj i List.mem_cons_self
    have := hcandidate j y hy
    omega
  have hafter : ∀ o ∈ after.map s.candidate, ∀ y ∈ o, t ≤ y.1 := by
    intro o ho y hy
    obtain ⟨j, -, rfl⟩ := List.mem_map.mp ho
    have := hcandidate j y hy
    omega
  have hself : s.candidate i = some (t, i) := by rw [State.candidate, h, Option.map_some]
  rw [State.nextLane_eq_candidates, hsplit, List.map_append, List.map_cons, List.foldl_append, List.foldl_cons, hself,
    earlier_of_lt (foldl_earlier_lt hbefore (by simp)), foldl_earlier_le hafter, Option.map_some]

theorem LaneUnit.waitingSince_eq_some :
    u.waitingSince = some t ↔ ∃ c, u.queue.head? = some c ∧ c.state = .holding ∧ c.grantedAt = t := by
  unfold LaneUnit.waitingSince
  split
  · rename_i hq
    simp [hq]
  · rename_i hq
    simp [hq]

theorem State.nextLane_none (h : ∀ j d, (s.lane j).queue.head? = some d → d.state ≠ .holding) : s.nextLane = none := by
  cases hnext : s.nextLane with
  | none => rfl
  | some j =>
    obtain ⟨d, ds, hq, hd⟩ := LaneUnit.headHolding_iff.mp (State.nextLane_holding hnext)
    exact absurd hd (h j d (by rw [hq]; rfl))

/-! ### The slot that takes releases (R135) -/

theorem State.openSlot_eq_some :
    s.openSlot = some k ↔ s.pacer.slot = some k ∧ s.pacer.mode = .paced ∧ s.pacer.lift = .running ∧
      s.pacer.tracking = .tracking ∧ s.clock < k.cutoffEnd ∧ k.released < k.capacity := by
  unfold State.openSlot
  cases hslot : s.pacer.slot with
  | none => simp
  | some m =>
    dsimp only
    split
    · rename_i hopen
      exact ⟨fun h => Option.some.inj h ▸ ⟨rfl, hopen⟩, fun h => h.1⟩
    · rename_i hclosed
      exact ⟨(nomatch ·), fun ⟨h, hopen⟩ => absurd (Option.some.inj h ▸ hopen) hclosed⟩

/-! ### One release (R92, R136, R137) -/

/-- A lane unit after its head is released, the unlock started where it is due in the same event. -/
def LaneUnit.releaseHead (now : Nat) (slot : Option Nat) (earliest : Nat) (u : LaneUnit) : LaneUnit :=
  let v := u.modHead (Credit.release now slot earliest)
  if v.unlockDue now then v.startUnlock now else v

theorem LaneUnit.releaseHead_eq (hq : u.queue = c :: cs) (now : Nat) (slot : Option Nat) (earliest : Nat) :
    u.releaseHead now slot earliest =
      let starts : Bool := earliest ≤ now && u.tracker = .home
      let state : CreditState := if starts then .unlocked else .released
      { u with
        gate := if u.gate.inService then gateOfCredit state else u.gate
        unlockOut := u.unlockOut || starts
        queue :=
          { c with
            state := state, releasedAt := some now, slot := slot, earliestUnlock := some earliest, lifeEnd := none
            unlockStart := if starts then some now else c.unlockStart
            unlockEnd := if starts then some (now + u.config.unlockWidth) else c.unlockEnd } :: cs } := by
  have hdue := LaneUnit.release_unlockDue (now := now) hq slot earliest
  unfold LaneUnit.releaseHead
  by_cases hstarts : earliest ≤ now ∧ u.tracker = .home
  · have hs : (decide (earliest ≤ now) && decide (u.tracker = .home)) = true := by simpa using hstarts
    dsimp only
    rw [if_pos (hdue.mpr hstarts), LaneUnit.release_startUnlock hq, hs, Bool.or_true]
    rfl
  · have hs : (decide (earliest ≤ now) && decide (u.tracker = .home)) = false := by simpa using hstarts
    dsimp only
    rw [if_neg (mt hdue.mp hstarts), LaneUnit.release_eq hq, hs, Bool.or_false]
    rfl

theorem LaneUnit.headHolding_releaseHead (hq : u.queue = c :: cs) (now : Nat) (slot : Option Nat) (earliest : Nat) :
    (u.releaseHead now slot earliest).headHolding = false := by
  rw [LaneUnit.releaseHead_eq hq]
  refine Bool.eq_false_iff.mpr fun h => ?_
  have hstate := (LaneUnit.headHolding_cons rfl).mp h
  split at hstate <;> cases hstate

theorem State.releaseInto_head (s : State) (k : Slot) (i : LaneNo) :
    s.releaseInto k i =
      { s.setLane i ((s.lane i).releaseHead s.clock (some k.number) (max s.clock k.earliestUnlock)) with
        pacer := { s.pacer with
          slot := some { k with released := k.released + 1 }
          counts := { s.pacer.counts with seatsReleased := min (s.pacer.counts.seatsReleased + 1) 4294967295 } } } := by
  unfold State.releaseInto
  simp only [State.tryUnlock_eq]
  simp only [State.modLane, State.setLane, State.lane, Six.set_set, Six.get_set, if_true]
  rfl

/-! ### Six releases are enough: each takes a HOLDING head away -/

/-- The lanes whose head credit is HOLDING. -/
def State.waiting (s : State) : Finset LaneNo := Finset.univ.filter fun j => (s.lane j).headHolding = true

theorem State.mem_waiting {j : LaneNo} : j ∈ s.waiting ↔ (s.lane j).headHolding = true := by simp [State.waiting]

theorem State.card_waiting_le (s : State) : s.waiting.card ≤ 6 := s.waiting.card_le_univ

theorem State.waiting_releaseInto (h : (s.lane i).headHolding = true) (k : Slot) :
    (s.releaseInto k i).waiting = s.waiting.erase i := by
  obtain ⟨c, cs, hq, -⟩ := LaneUnit.headHolding_iff.mp h
  ext j
  have hlane : (s.releaseInto k i).lane j =
      if j = i then (s.lane i).releaseHead s.clock (some k.number) (max s.clock k.earliestUnlock) else s.lane j := by
    rw [State.releaseInto_head]
    exact State.setLane_lane s i j _
  rw [State.mem_waiting, Finset.mem_erase, State.mem_waiting, hlane]
  split
  · simp_all [LaneUnit.headHolding_releaseHead hq]
  · simp_all

theorem arbitrateUpTo_release (hk : s.openSlot = some k) (hi : s.nextLane = some i) (n : Nat) :
    arbitrateUpTo (n + 1) s = arbitrateUpTo n (s.releaseInto k i) := by
  rw [arbitrateUpTo, hk, hi]

theorem arbitrateUpTo_done (h : s.openSlot = none ∨ s.nextLane = none) (n : Nat) : arbitrateUpTo n s = s := by
  cases n with
  | zero => rfl
  | succ n =>
    rw [arbitrateUpTo]
    split
    · rename_i hk hi
      rcases h with h | h <;> simp_all
    · rfl

/-- One more release than lanes wait changes nothing. -/
theorem arbitrateUpTo_succ (n : Nat) (s : State) (h : s.waiting.card ≤ n) :
    arbitrateUpTo (n + 1) s = arbitrateUpTo n s := by
  induction n generalizing s with
  | zero =>
    have hnone : s.nextLane = none := by
      cases hnext : s.nextLane with
      | none => rfl
      | some j =>
        have hempty : s.waiting = ∅ := Finset.card_eq_zero.mp (Nat.le_zero.mp h)
        have hj := State.mem_waiting.mpr (State.nextLane_holding hnext)
        rw [hempty] at hj
        exact absurd hj (Finset.notMem_empty j)
    rw [arbitrateUpTo_done (.inr hnone), arbitrateUpTo_done (.inr hnone)]
  | succ n ih =>
    cases hk : s.openSlot with
    | none => rw [arbitrateUpTo_done (.inl hk), arbitrateUpTo_done (.inl hk)]
    | some k =>
      cases hi : s.nextLane with
      | none => rw [arbitrateUpTo_done (.inr hi), arbitrateUpTo_done (.inr hi)]
      | some j =>
        have hj := State.nextLane_holding hi
        have hfewer : (s.releaseInto k j).waiting.card ≤ n := by
          rw [State.waiting_releaseInto hj, Finset.card_erase_of_mem (State.mem_waiting.mpr hj)]
          omega
        rw [arbitrateUpTo_release hk hi, arbitrateUpTo_release hk hi, ih _ hfewer]

/-- Arbitration goes on with what a release leaves. -/
theorem State.arbitrate_release (hk : s.openSlot = some k) (hi : s.nextLane = some i) :
    s.arbitrate = (s.releaseInto k i).arbitrate := by
  have hwaits := State.nextLane_holding hi
  have hfewer : (s.releaseInto k i).waiting.card ≤ 5 := by
    have := s.card_waiting_le
    rw [State.waiting_releaseInto hwaits, Finset.card_erase_of_mem (State.mem_waiting.mpr hwaits)]
    omega
  exact (arbitrateUpTo_release hk hi 5).trans (arbitrateUpTo_succ 5 _ hfewer).symm

theorem State.arbitrate_done (h : s.openSlot = none ∨ s.nextLane = none) : s.arbitrate = s := arbitrateUpTo_done h 6

/-! ### Offers (R69, R136, R137) -/

theorem State.offer_none (h : (s.lane i).headHolding ≠ true) : s.offer i = s := if_neg h

theorem State.offer_paced (h : (s.lane i).headHolding = true) (hm : s.pacer.mode = .paced) :
    s.offer i = s.arbitrate := by
  rw [State.offer, if_pos h, hm]

theorem State.offer_free (h : (s.lane i).headHolding = true) (hm : s.pacer.mode = .free) :
    s.offer i = s.freeRelease i := by
  rw [State.offer, if_pos h, hm]

theorem State.freeRelease_head (hq : (s.lane i).queue = c :: cs) (hc : c.state = .holding)
    (hlift : s.pacer.lift = .running) (ht : (s.lane i).tracker = .home) :
    s.freeRelease i = s.setLane i ((s.lane i).releaseHead s.clock none s.clock) := by
  rw [State.freeRelease_holding hq hc hlift ht, LaneUnit.releaseHead,
    if_pos ((LaneUnit.release_unlockDue hq _ _).mpr ⟨Nat.le_refl _, ht⟩)]

end Arbitration

/-- Settles O40: an offer by the mode, an arbitration by the slot and the lane it finds next; six releases being enough,
what follows the first one is again an arbitration. -/
theorem offersReleaseHeadCredits : Obligations.OffersReleaseHeadCredits := by
  intro s i u released takes
  have hreleased : ∀ c rest slot earliest, u.queue = c :: rest →
      u.releaseHead s.clock slot earliest = released c slot earliest rest :=
    fun c rest slot earliest hq => LaneUnit.releaseHead_eq hq ..
  refine ⟨fun c rest hq hc => ?_, fun hnone => State.offer_none fun h => ?_, fun hno => State.arbitrate_done (.inl ?_),
    fun hnone => State.arbitrate_done (.inr (State.nextLane_none hnone))⟩
  · have hhead : (s.lane i).headHolding = true := (LaneUnit.headHolding_cons hq).mpr hc
    refine ⟨State.offer_paced hhead, fun hm hlift ht => ?_, fun hm hstill => ?_, fun k hk hfirst => ?_⟩
    · rw [State.offer_free hhead hm, State.freeRelease_head hq hc hlift ht, ← hreleased c rest none s.clock hq]
    · rw [State.offer_free hhead hm]
      refine State.freeRelease_none fun ⟨_, hlift, ht⟩ => ?_
      rcases hstill with h | h
      · rw [hlift] at h
        cases h
      · exact h ht
    · have hnext : s.nextLane = some i := by
        refine State.nextLane_eq (LaneUnit.waitingSince_eq_some.mpr ⟨c, by rw [hq]; rfl, hc, rfl⟩) fun j n hj => ?_
        obtain ⟨d, hd, hstate, rfl⟩ := LaneUnit.waitingSince_eq_some.mp hj
        exact hfirst j d hd hstate
      rw [State.arbitrate_release (State.openSlot_eq_some.mpr hk) hnext, State.releaseInto_head,
        ← hreleased c rest _ _ hq]
  · obtain ⟨c, cs, hq, hc⟩ := LaneUnit.headHolding_iff.mp h
    exact hnone c (by rw [hq]; rfl) hc
  · cases hk : s.openSlot with
    | none => rfl
    | some k => exact absurd (State.openSlot_eq_some.mp hk) (hno k)

end Sys2Proof.Machine

/-! ## The end of a credit with all its effects (R103 to R107, R119) -/

namespace Sys2Proof.Machine

/-! ### Pairs that reach an endpoint one after another (R164, R166) -/

/-- A link's endpoint after these pairs are raised, first to last. -/
def Endpoint.raiseAll (v : Levels) (l : LinkNo) : List EventPair → Endpoint → Endpoint
  | [], e => e
  | p :: ps, e => Endpoint.raiseAll v l ps (if inScope p l = true then e.raise v p else e)

section RaiseAll
variable (v : Levels) (l : LinkNo) (ps : List EventPair) (e : Endpoint)

theorem Endpoint.raiseAll_append (qs : List EventPair) :
    Endpoint.raiseAll v l (ps ++ qs) e = Endpoint.raiseAll v l qs (Endpoint.raiseAll v l ps e) := by
  induction ps generalizing e with
  | nil => rfl
  | cons p ps ih => exact ih _

theorem Endpoint.mem_raiseAll_pairs (q : EventPair) :
    q ∈ (Endpoint.raiseAll v l ps e).pairs ↔ q ∈ e.pairs ∨ (q ∈ ps ∧ inScope q l = true) := by
  induction ps generalizing e with
  | nil => simp [Endpoint.raiseAll]
  | cons p ps ih =>
    have hone : q ∈ (if inScope p l = true then e.raise v p else e).pairs ↔
        q ∈ e.pairs ∨ (q = p ∧ inScope q l = true) := by
      split
      · rename_i hp
        simp only [Endpoint.raise, Endpoint.decide, mem_insertPair]
        constructor
        · rintro (rfl | h)
          · exact .inr ⟨rfl, hp⟩
          · exact .inl h
        · rintro (h | ⟨rfl, -⟩)
          · exact .inr h
          · exact .inl rfl
      · rename_i hp
        refine (or_iff_left ?_).symm
        rintro ⟨rfl, h⟩
        exact hp h
    rw [Endpoint.raiseAll, ih, hone, List.mem_cons, or_assoc, or_and_right]

/-- Pairs and attention line are all that a raise changes. -/
theorem Endpoint.raiseAll_rest :
    { Endpoint.raiseAll v l ps e with pairs := e.pairs, attention := e.attention } = e := by
  induction ps generalizing e with
  | nil => rfl
  | cons p ps ih =>
    rw [Endpoint.raiseAll]
    split
    · exact congrArg (fun f : Endpoint => { f with pairs := e.pairs, attention := e.attention }) (ih (e.raise v p))
    · exact ih e

/-- A line is decided with the last pair in scope, and no pair comes after it. -/
theorem Endpoint.raiseAll_attention :
    (Endpoint.raiseAll v l ps e).attention =
      if ∃ p ∈ ps, inScope p l = true then lineActive v e.mask (Endpoint.raiseAll v l ps e).pairs
      else e.attention := by
  have decided : ∀ (qs : List EventPair) (f : Endpoint), f.attention = lineActive v f.mask f.pairs →
      (Endpoint.raiseAll v l qs f).attention = lineActive v f.mask (Endpoint.raiseAll v l qs f).pairs := by
    intro qs
    induction qs with
    | nil => exact fun _ h => h
    | cons q qs ih =>
      intro f h
      rw [Endpoint.raiseAll]
      split
      · exact ih (f.raise v q) rfl
      · exact ih f h
  induction ps generalizing e with
  | nil => simp [Endpoint.raiseAll]
  | cons p ps ih =>
    rw [Endpoint.raiseAll]
    by_cases hp : inScope p l = true
    · rw [if_pos hp, if_pos ⟨p, List.mem_cons_self, hp⟩]
      exact decided ps (e.raise v p) rfl
    · rw [if_neg hp, ih]
      simp [hp]

end RaiseAll

/-! ### The pass after the end of its credit (R27, R28, R106) -/

/-- The pass's record after step 2 of R103: a first-use link ends with its credit. -/
def Pass.linkEnded (c : Credit) (o : CreditOutcome) (p : Pass) : Pass :=
  { p with
    uses :=
      if c.firstUse = none then p.uses
      else if o = .passed then p.uses.map fun x => { x with status := .final }
      else p.uses.filter fun x => decide (x.status = .final)
    generation := if c.firstUse = none then p.generation else (p.generation + 1) % 65536 }

/-- The pass's record after steps 2 and 3 of R103. -/
def Pass.afterEnd (s : State) (i : LaneNo) (c : Credit) (o : CreditOutcome) (p : Pass) : Pass :=
  { p.linkEnded c o with
    lastPassage :=
      if o = .passed then some { day := s.currentDay, timeOfDay := s.timeOfDay, lane := i } else p.lastPassage
    holdEnd := if o = .passed then some (s.clock + (s.tariffOf p.cls).hold * 60000) else p.holdEnd }

/-- Steps 2 and 3 of R103. -/
def State.settlePass (s : State) (i : LaneNo) (c : Credit) (o : CreditOutcome) : State :=
  if o = .passed then (s.settleLink c o).writePassage i c else s.settleLink c o

theorem State.modPass_modPass (s : State) (n : Nat) {f : Pass → Pass} (hf : ∀ p, (f p).number = p.number)
    (g : Pass → Pass) : (s.modPass n f).modPass n g = s.modPass n fun p => g (f p) := by
  unfold State.modPass
  simp only [List.map_map]
  congr 1
  refine List.map_congr_left fun p _ => ?_
  by_cases hp : p.number = n <;> simp [hp, hf]

theorem finaliseUses_final (us : List DayUse) : finaliseUses us = us.map fun x => { x with status := .final } :=
  List.map_congr_left fun x _ => by
    obtain ⟨day, kind, origin, status⟩ := x
    cases status <;> rfl

theorem State.settleLink_modPass (s : State) (c : Credit) (o : CreditOutcome) :
    s.settleLink c o = s.modPass c.pass (Pass.linkEnded c o) := by
  unfold State.settleLink Pass.linkEnded
  cases hlink : c.firstUse with
  | none => simp [State.modPass]
  | some k =>
    simp only [Option.isSome_some, if_true, finaliseUses_final, removeTentative_eq, reduceCtorEq, if_false]
    rfl

theorem State.settlePass_eq (s : State) (i : LaneNo) (c : Credit) (o : CreditOutcome) :
    s.settlePass i c o = s.modPass c.pass (Pass.afterEnd s i c o) := by
  unfold State.settlePass
  rw [State.settleLink_modPass]
  split
  · rename_i ho
    rw [State.writePassage, State.modPass_modPass s c.pass (f := Pass.linkEnded c o) fun _ => rfl]
    refine congrArg (s.modPass c.pass) (funext fun p => ?_)
    rw [Pass.afterEnd, if_pos ho, if_pos ho]
    rfl
  · rename_i ho
    refine congrArg (s.modPass c.pass) (funext fun p => ?_)
    rw [Pass.afterEnd, if_neg ho, if_neg ho]
    rfl

theorem State.endCredit_afterEnd {s : State} {i : LaneNo} {place : Nat} {c : Credit} {o : CreditOutcome}
    (h : (s.lane i).queue[place]? = some c) :
    (s.endCredit i place o).passes = s.passes.map fun p => if p.number = c.pass then p.afterEnd s i c o else p := by
  rw [← State.modPass_passes, ← State.settlePass_eq, State.endCredit_passes h, State.settlePass]
  split <;> rfl

/-! ### The steps before the close of the day -/

/-- The Journal records of the end of a credit (R107, R160). -/
def State.logEnd (s : State) (i : LaneNo) (c : Credit) (o : CreditOutcome) (rotation : Nat) : State :=
  (if o = .passed then s.append (.passage i c.pass c.number c.firstUse c.slot rotation) else s).append
    (.creditEnded i c.pass c.number o (decide (c.firstUse ≠ none ∧ o ≠ .passed)))

/-- The kinds raised by the end of a credit (R103). -/
def State.raiseEnd (s : State) (i : LaneNo) (o : CreditOutcome) : State :=
  (if o = .passed then s.raiseAt .passage i else s).raiseAt .creditEnded i

/-- The end of a credit but for the close of the day. -/
def State.creditGone (s : State) (i : LaneNo) (place : Nat) (c : Credit) (o : CreditOutcome) : State :=
  (((s.settlePass i c o).logEnd i c o (s.lane i).rotationTime).raiseEnd i o).modLane i (LaneUnit.ended place c o)

section Steps
variable (s : State) (i : LaneNo) (place : Nat) (c : Credit) (o : CreditOutcome)

theorem State.writePassage_modLane (f : LaneUnit → LaneUnit) :
    (s.modLane i f).writePassage i c = (s.writePassage i c).modLane i f := rfl

variable {s i place c}

/-- The close of the day comes last; every other step is in `State.creditGone`. -/
theorem State.endCredit_eq (h : (s.lane i).queue[place]? = some c) :
    s.endCredit i place o = (s.creditGone i place c o).closeIfDrained := by
  have hremoved : (c.firstUse.isSome && decide (o ≠ .passed)) = decide (c.firstUse ≠ none ∧ o ≠ .passed) := by
    rw [Bool.eq_iff_iff]
    simp [Option.isSome_iff_ne_none]
  unfold State.endCredit
  rw [h]
  dsimp only
  rw [hremoved]
  congr 1
  unfold State.creditGone State.settlePass State.logEnd State.raiseEnd
  split_ifs
  all_goals
    simp only [State.settleLink_modLane, State.writePassage_modLane, State.modLane_modLane, State.modLane_append,
      State.raiseAt, State.modLane_raise]
    rfl

variable (s i place c)

theorem SameLog.settlePass : SameLog s (s.settlePass i c o) := by
  rw [State.settlePass_eq]
  exact ⟨rfl, rfl, rfl, rfl, rfl, rfl, rfl⟩

theorem SameLog.logEnd {s t : State} (h : SameLog s t) (rotation : Nat) :
    SameLog (s.logEnd i c o rotation) (t.logEnd i c o rotation) := by
  unfold State.logEnd
  split
  · exact (h.append _).append _
  · exact h.append _

theorem SameLog.raiseEnd : SameLog s (s.raiseEnd i o) := by
  unfold State.raiseEnd
  split
  · exact (SameLog.raise s _).trans (SameLog.raise _ _)
  · exact SameLog.raise s _

/-- Only its records reach the Journal before the close of the day. -/
theorem SameLog.creditGone :
    SameLog (s.logEnd i c o (s.lane i).rotationTime) (s.creditGone i place c o) :=
  ((SameLog.settlePass s i c o).logEnd i c o _).trans ((SameLog.raiseEnd _ i o).trans (SameLog.modLane _ i _))

/-- The pairs the end of a credit raises before the close of the day, in their order (R103). -/
def endPairs (i : LaneNo) (o : CreditOutcome) : List EventPair :=
  (if o = .passed then [.atLane .passage i] else []) ++ [.atLane .creditEnded i]

theorem State.logEnd_eq (rotation : Nat) :
    s.logEnd i c o rotation = { s with
      journal := (s.logEnd i c o rotation).journal, nextSeq := (s.logEnd i c o rotation).nextSeq } := by
  unfold State.logEnd
  split <;> rfl

theorem State.raiseEnd_link (l : LinkNo) :
    (s.raiseEnd i o).link l = Endpoint.raiseAll s.levels l (endPairs i o) (s.link l) := by
  unfold State.raiseEnd endPairs State.raiseAt
  split <;> simp only [State.raise_link, State.raise_levels] <;> rfl

/-- Before the close of the day the raised pairs are all that reaches an endpoint. -/
theorem State.creditGone_link (l : LinkNo) :
    (s.creditGone i place c o).link l = Endpoint.raiseAll s.levels l (endPairs i o) (s.link l) := by
  rw [State.creditGone, State.modLane_link, State.raiseEnd_link, State.logEnd_eq, State.settlePass_eq]
  rfl

theorem State.creditGone_levels : (s.creditGone i place c o).levels = s.levels := by
  have hraise : ∀ t : State, (t.raiseEnd i o).levels = t.levels := fun t => by
    unfold State.raiseEnd State.raiseAt
    split <;> simp
  rw [State.creditGone, State.modLane_levels, hraise, State.logEnd_eq, State.settlePass_eq, State.modPass_levels]

end Steps

/-! ### The close of the day (R48, R49) -/

section Close
variable {s : State}

/-- The day stays as it is while it is not CLOSING or a credit is left. -/
theorem State.closeIfDrained_stays (h : ¬ (s.day = .closing ∧ s.credits = [])) : s.closeIfDrained = s :=
  if_neg fun ⟨hday, hempty⟩ => h ⟨hday, (State.allEmpty_iff s).mp hempty⟩

/-- The last credit of a CLOSING day closes it. -/
theorem State.closeIfDrained_closes (hday : s.day = .closing) (hcredits : s.credits = []) :
    s.closeIfDrained =
      (State.append { s with day := .closed } (.dayClosed s.lastOpened (s.sumCounts LaneCounts.passages)
        (s.sumCounts fun c => c.tailgates + c.forced))).raise (.lift .dayState) := by
  rw [← State.endAdmission_of_drained hcredits, State.endAdmission, ← hday]

theorem State.closeIfDrained_link (s : State) (l : LinkNo) :
    s.closeIfDrained.link l =
      Endpoint.raiseAll s.levels l (if s.day = .closing ∧ s.credits = [] then [.lift .dayState] else []) (s.link l) := by
  split
  · rename_i h
    rw [State.closeIfDrained_closes h.1 h.2, State.raise_link]
    rfl
  · rename_i h
    rw [State.closeIfDrained_stays h]
    rfl

end Close

section EndCredit
variable {s : State} {i : LaneNo} {place : Nat} {c : Credit} {o : CreditOutcome}

/-! ### The endpoints and the Journal after the end of a credit -/

/-- The day before the close is the day before the end, and its credits are those left. -/
theorem State.creditGone_drained (h : (s.lane i).queue[place]? = some c) :
    ((s.creditGone i place c o).day = .closing ∧ (s.creditGone i place c o).credits = []) ↔
      (s.day = .closing ∧ (s.endCredit i place o).credits = []) := by
  have hday : (s.creditGone i place c o).day = s.day := by
    rw [(SameLog.creditGone s i place c o).day, State.logEnd_eq]
  rw [State.endCredit_eq o h, State.closeIfDrained_credits, hday]

theorem State.endCredit_link (h : (s.lane i).queue[place]? = some c) (l : LinkNo) :
    (s.endCredit i place o).link l =
      Endpoint.raiseAll s.levels l
        (endPairs i o ++
          if s.day = .closing ∧ (s.endCredit i place o).credits = [] then [.lift .dayState] else [])
        (s.link l) := by
  rw [Endpoint.raiseAll_append, ← State.creditGone_link s i place c o l, ← State.creditGone_levels s i place c o]
  simp only [← State.creditGone_drained h]
  rw [← State.closeIfDrained_link, ← State.endCredit_eq o h]

theorem mem_endPairs (q : EventPair) :
    q ∈ endPairs i o ↔ q = .atLane .creditEnded i ∨ (o = .passed ∧ q = .atLane .passage i) := by
  unfold endPairs
  split <;> simp_all [or_comm]

theorem State.mem_endCredit_pairs (h : (s.lane i).queue[place]? = some c) (l : LinkNo) (q : EventPair) :
    q ∈ ((s.endCredit i place o).link l).pairs ↔
      q ∈ (s.link l).pairs ∨ (q = .atLane .creditEnded i ∧ inScope q l = true) ∨
        (o = .passed ∧ q = .atLane .passage i ∧ inScope q l = true) ∨
        ((s.day = .closing ∧ (s.endCredit i place o).credits = []) ∧ q = .lift .dayState) := by
  have hclose : q ∈ (if s.day = .closing ∧ (s.endCredit i place o).credits = [] then
      [EventPair.lift .dayState] else []) ∧ inScope q l = true ↔
      (s.day = .closing ∧ (s.endCredit i place o).credits = []) ∧ q = .lift .dayState := by
    split
    · rename_i hd
      rw [List.mem_singleton, and_iff_right hd]
      exact ⟨And.left, fun e => ⟨e, by rw [e]; rfl⟩⟩
    · rename_i hd
      simp [hd]
  rw [State.endCredit_link h, Endpoint.mem_raiseAll_pairs, List.mem_append, mem_endPairs, or_and_right, or_and_right,
    and_assoc, or_assoc, hclose]

/-- The links whose lines the end of a credit decides: its lane's, office and console, and with the close of the day
all. -/
theorem State.endCredit_attention (h : (s.lane i).queue[place]? = some c) (l : LinkNo) :
    ((s.endCredit i place o).link l).attention =
      if (s.day = .closing ∧ (s.endCredit i place o).credits = []) ∨
          l = linkOfLane i ∨ l = officeLink ∨ l = consoleLink then
        ((s.endCredit i place o).link l).pairs.any fun q => decide ((s.link l).mask < levelOf s.levels q)
      else (s.link l).attention := by
  have hlane : ∀ k : LaneEvent, inScope (.atLane k i) l = true ↔ l = linkOfLane i ∨ l = officeLink ∨ l = consoleLink :=
    fun k => by simp [inScope, or_assoc]
  rw [State.endCredit_link h, Endpoint.raiseAll_attention]
  refine if_congr ⟨?_, ?_⟩ rfl rfl
  · rintro ⟨p, hp, hscope⟩
    rcases List.mem_append.mp hp with hp | hp
    · rcases mem_endPairs p |>.mp hp with rfl | ⟨-, rfl⟩
      · exact .inr ((hlane _).mp hscope)
      · exact .inr ((hlane _).mp hscope)
    · split at hp
      · exact .inl ‹_›
      · cases hp
  · rintro (hd | hl)
    · exact ⟨.lift .dayState, List.mem_append_right _ (by rw [if_pos hd]; exact List.mem_singleton_self _), rfl⟩
    · exact ⟨.atLane .creditEnded i, List.mem_append_left _ ((mem_endPairs _).mpr (.inl rfl)), (hlane _).mpr hl⟩

theorem State.endCredit_closes (h : (s.lane i).queue[place]? = some c) (hday : s.day = .closing)
    (hcredits : (s.endCredit i place o).credits = []) :
    (s.endCredit i place o).day = .closed ∧
      (s.endCredit i place o).journal =
        (State.append { s.logEnd i c o (s.lane i).rotationTime with day := .closed } (.dayClosed s.lastOpened
          ((s.endCredit i place o).sumCounts LaneCounts.passages)
          ((s.endCredit i place o).sumCounts fun x => x.tailgates + x.forced))).journal := by
  have hlog := SameLog.creditGone s i place c o
  obtain ⟨hgone, hnone⟩ := (State.creditGone_drained h).mpr ⟨hday, hcredits⟩
  have hopened : (s.creditGone i place c o).lastOpened = s.lastOpened := by
    rw [hlog.lastOpened, State.logEnd_eq]
  have hsum : ∀ f, (s.endCredit i place o).sumCounts f = (s.creditGone i place c o).sumCounts f := fun f => by
    rw [State.endCredit_eq o h]
    exact State.sumCounts_congr (State.closeIfDrained_lane _) f
  refine ⟨by rw [State.endCredit_day h, if_pos ⟨hday, hcredits⟩], ?_⟩
  rw [hsum, hsum, State.endCredit_eq o h, State.closeIfDrained_closes hgone hnone, State.raise_journal, hopened]
  exact ((hlog.toDay .closed).append _).journal

theorem State.endCredit_stays (h : (s.lane i).queue[place]? = some c)
    (hstays : ¬ (s.day = .closing ∧ (s.endCredit i place o).credits = [])) :
    (s.endCredit i place o).day = s.day ∧
      (s.endCredit i place o).journal = (s.logEnd i c o (s.lane i).rotationTime).journal ∧
      (s.endCredit i place o).nextSeq = (s.logEnd i c o (s.lane i).rotationTime).nextSeq := by
  have hlog := SameLog.creditGone s i place c o
  refine ⟨by rw [State.endCredit_day h, if_neg hstays], ?_⟩
  rw [State.endCredit_eq o h, State.closeIfDrained_stays ((State.creditGone_drained h).not.mpr hstays)]
  exact ⟨hlog.journal, hlog.nextSeq⟩

/-! ### The lane after the end of its credit (R79, R80, R84) -/

/-- The unlock output stays with a credit that does not hold it. -/
theorem LaneUnit.dequeue_eq (u : LaneUnit) (place : Nat) (c : Credit) :
    u.dequeue place c = { u with
      queue := u.queue.eraseIdx place
      unlockOut := u.unlockOut && decide (c.state = .holding ∨ c.state = .released) } := by
  unfold LaneUnit.dequeue
  cases c.state <;> simp

/-- A lane unit with a credit out of its queue and counted, its gate state left aside. -/
def LaneUnit.creditOut (place : Nat) (c : Credit) (o : CreditOutcome) (u : LaneUnit) : LaneUnit :=
  { u with
    queue := u.queue.eraseIdx place
    unlockOut := u.unlockOut && decide (c.state = .holding ∨ c.state = .released)
    counts := u.counts.countOutcome o
    lastEnded := some (c.number, o) }

section Lane
variable {u : LaneUnit}

theorem LaneUnit.ended_eq (u : LaneUnit) (place : Nat) (c : Credit) (o : CreditOutcome) :
    u.ended place c o = (u.creditOut place c o).follow.offIfDrained := by
  rw [LaneUnit.ended, LaneUnit.dequeue_eq]
  rfl

theorem LaneUnit.ended_follows (hg : u.gate.inService = true) (place : Nat) (c : Credit) (o : CreditOutcome) :
    u.ended place c o = { u.creditOut place c o with gate := gateOfQueue (u.queue.eraseIdx place) } := by
  rw [LaneUnit.ended_eq, LaneUnit.follow_inService (by exact hg)]
  refine LaneUnit.offIfDrained_of_ne fun hclosing => ?_
  have hservice := gateOfQueue_inService (u.queue.eraseIdx place)
  rw [show gateOfQueue (u.queue.eraseIdx place) = .closing from hclosing] at hservice
  cases hservice

theorem LaneUnit.ended_closing (hg : u.gate = .closing) (place : Nat) (c : Credit) (o : CreditOutcome) :
    u.ended place c o =
      if u.queue.eraseIdx place = [] ∧ u.tracker = .home then (u.creditOut place c o).toOff
      else u.creditOut place c o := by
  have hg' : (u.creditOut place c o).gate = .closing := hg
  rw [LaneUnit.ended_eq, LaneUnit.follow_outOfService (by rw [hg']; rfl), LaneUnit.offIfDrained]
  simp only [hg', true_and]
  rfl

theorem LaneUnit.ended_stays (hg : u.gate.inService = false) (hne : u.gate ≠ .closing) (place : Nat) (c : Credit)
    (o : CreditOutcome) : u.ended place c o = u.creditOut place c o := by
  rw [LaneUnit.ended_eq, LaneUnit.follow_outOfService (by exact hg)]
  exact LaneUnit.offIfDrained_of_ne hne

/-- The lane stays as it was in all but queue, gate state, last ended credit and counts, and the unlock output; going to
OFF its sensors stop too. -/
theorem LaneUnit.ended_rest (u : LaneUnit) (place : Nat) (c : Credit) (o : CreditOutcome) :
    let v := { u.ended place c o with
      queue := u.queue, gate := u.gate, lastEnded := u.lastEnded, counts := u.counts }
    if u.gate = .closing ∧ u.queue.eraseIdx place = [] ∧ u.tracker = .home then
      v = { u with
        sensorPower := false, unlockOut := false, tracker := .notRead, rotation := none, beam := none
        lastSample := none, firstSample := true, settleEnd := none, passageFrom := none, blockedFrom := none
        silenceEnd := none }
    else v = { u with unlockOut := u.unlockOut && decide (c.state = .holding ∨ c.state = .released) } := by
  dsimp only
  by_cases hclosing : u.gate = .closing
  · rw [LaneUnit.ended_closing hclosing]
    simp only [hclosing, true_and]
    split <;> rfl
  · rw [if_neg fun hc => hclosing hc.1]
    cases hservice : u.gate.inService with
    | true => rw [LaneUnit.ended_follows hservice]; rfl
    | false => rw [LaneUnit.ended_stays hservice hclosing]; rfl

end Lane

end EndCredit

/-- Settles O19: the steps of `State.endCredit_eq`, read field by field: the lane by its gate state (`LaneUnit.ended_…`), the
pass (`State.settlePass_eq`), the endpoints (`Endpoint.raiseAll`), and Journal and day by whether the day closes. -/
theorem creditEndHasItsEffects : Obligations.CreditEndHasItsEffects := by
  refine ⟨fun n => ⟨rfl, rfl, rfl, fun _ => rfl⟩, fun g => by cases g <;> simp [GateState.inService],
    ⟨rfl, fun c cs => ⟨congrArg gateOfCredit, congrArg gateOfCredit, congrArg gateOfCredit, congrArg gateOfCredit⟩⟩, ?_⟩
  intro s i place o c _ h t u rest drained logged
  have hlane : t.lane i = u.ended place c o := by rw [State.endCredit_lane h, if_pos rfl]
  have hends : Ends s t := Ends.endCredit s i place o
  rw [hlane]
  refine ⟨u.ended_queue .., u.ended_lastEnded .., u.ended_counts .., fun hg => ?_, fun hg => ?_, fun hg => ?_,
    u.ended_rest .., fun j hj => by rw [State.endCredit_lane h, if_neg hj], State.endCredit_afterEnd h,
    fun ⟨hday, hcredits⟩ => State.endCredit_closes h hday hcredits, State.endCredit_stays h,
    State.mem_endCredit_pairs h, fun l => ⟨State.endCredit_attention h l, ?_⟩, hends.pending, hends.freeCount,
    hends.run, hends.free, hends.tariffs, hends.clock, hends.offset, hends.clockSet, hends.lastOpened, hends.pacer,
    hends.levels, hends.office, hends.startRecord⟩
  · rw [LaneUnit.ended_follows hg]
    exact ⟨rfl, rfl⟩
  · rw [LaneUnit.ended_closing hg]
    split
    · rfl
    · exact hg
  · rw [LaneUnit.ended_stays (by rw [hg]; rfl) (by rw [hg]; decide)]
    exact hg
  · rw [State.endCredit_link h]
    exact Endpoint.raiseAll_rest ..

end Sys2Proof.Machine

/-! ## SET LIFT, SET SEATS and SET PACING (R125 to R128, R133) -/

namespace Sys2Proof.Machine

/-- The limits of R125 written out, each interval against the one stored before it. -/
theorem clampPacing_eq (v : PacingSettings) :
    clampPacing v =
      let low := max 2000 (min v.intervalMin 60000)
      let high := max (low + 1) (min v.intervalMax 120000)
      { intervalMin := low, intervalMax := high, nominal := max low (min v.nominal high)
        cutoffPercent := max 10 (min v.cutoffPercent 100), leadOffset := min v.leadOffset 60000 } := by
  simp (disch := omega) only [clampPacing, clamp_eq, Nat.zero_max]

/-! ### The lost watch (R131) -/

/-- Where the lost watch is started on a condition, it runs when it ran before or the condition holds. -/
theorem Pacer.startWatch_ite (now : Nat) (p : Pacer) (b : Prop) [Decidable b] :
    (if b then p.startWatch now else p) =
      { p with
        watchRunning := p.watchRunning || decide b
        watchFrom := if b then now else p.watchFrom } := by
  by_cases h : b <;> simp [h, Pacer.startWatch]

/-! ### Credits in HOLDING over a lift stop (R128) -/

theorem State.holdingCount_eq (s : State) : s.holdingCount = s.credits.countP fun c => decide (c.state = .holding) :=
  (s.countP_credits _).symm

/-- A lift stop leaves a credit HOLDING that was HOLDING or RELEASED. -/
theorem Credit.toHolding_state (t : Nat) (c : Credit) :
    (c.toHolding t).state = .holding ↔ c.state = .holding ∨ c.state = .released := by
  unfold Credit.toHolding
  split
  · rename_i hreleased
    simp [hreleased]
  · rename_i hnot
    simp [hnot]

theorem countP_toHolding (t : Nat) (q : List Credit) :
    (q.map (Credit.toHolding t)).countP (fun c => decide (c.state = .holding)) =
      q.countP (fun c => decide (c.state = .holding)) + q.countP (fun c => decide (c.state = .released)) := by
  induction q with
  | nil => rfl
  | cons c cs ih =>
    have hhead : (if (c.toHolding t).state = .holding then 1 else 0) =
        (if c.state = .holding then 1 else 0) + if c.state = .released then 1 else 0 := by
      simp only [Credit.toHolding_state]
      cases c.state <;> simp
    simp only [List.map_cons, List.countP_cons, ih, decide_eq_true_eq, hhead]
    omega

/-- The RELEASED credits of the six lanes join those that were HOLDING. -/
theorem State.holdingCount_stopLift (s : State) :
    s.stopLift.holdingCount = s.holdingCount + s.credits.countP fun c => decide (c.state = .released) := by
  have hlane : ∀ i, (s.stopLift.lane i).queue.countP (fun c => decide (c.state = .holding)) =
      (s.lane i).queue.countP (fun c => decide (c.state = .holding)) +
        (s.lane i).queue.countP (fun c => decide (c.state = .released)) := fun i => by
    rw [State.lane, State.stopLift, Six.get_map, LaneUnit.liftStop, LaneUnit.follow_queue, countP_toHolding]
    rfl
  simp only [State.holdingCount_eq, State.countP_credits, hlane, List.sum_map_add]

/-- A lane's lift stop written out. -/
theorem LaneUnit.liftStop_eq (now : Nat) (u : LaneUnit) :
    u.liftStop now =
      { u with
        queue := u.queue.map (Credit.toHolding (now + u.config.creditLife * 1000))
        gate := if u.gate.inService then gateOfQueue (u.queue.map (Credit.toHolding (now + u.config.creditLife * 1000)))
          else u.gate } := by
  unfold LaneUnit.liftStop LaneUnit.follow
  dsimp only
  split <;> rfl

section SetLift
variable {s : State} {n : Nat}

theorem setLift_outOfRange (h : 2 ≤ n) : setLift n s = (s, .outOfRange) := by
  rw [setLift, liftStateOf, if_neg (by omega), if_neg (by omega)]

theorem setLift_same {x : LiftState} (hn : liftStateOf n = some x) (hl : s.pacer.lift = x) :
    setLift n s = (s, .lift x none) := by
  simp [setLift, hn, hl]

theorem setLift_start (hl : s.pacer.lift = .stopped) :
    setLift 0 s = (s.startLift, .lift .running (some (s.holdingCount - s.startLift.holdingCount))) := by
  simp [setLift, liftStateOf, hl]

/-- The count answered for a stop is that of the credits it takes from RELEASED. -/
theorem setLift_stop (hl : s.pacer.lift = .running) :
    setLift 1 s = (s.stopLift, .lift .stopped (some (s.credits.countP fun c => decide (c.state = .released)))) := by
  have hcount : s.stopLift.holdingCount - s.holdingCount = s.credits.countP fun c => decide (c.state = .released) := by
    rw [State.holdingCount_stopLift, Nat.add_sub_cancel_left]
  simp [setLift, liftStateOf, hl, hcount]

theorem State.startLift_paced (hm : s.pacer.mode = .paced) :
    s.startLift = State.arbitrate { s with pacer := { s.pacer with
      lift := .running
      watchRunning := s.pacer.watchRunning || decide (s.pacer.tracking = .tracking)
      watchFrom := if s.pacer.tracking = .tracking then s.clock else s.pacer.watchFrom } } := by
  rw [State.startLift, hm]
  exact congrArg (fun p => State.arbitrate { s with pacer := p }) (Pacer.startWatch_ite ..)

theorem State.startLift_free (hm : s.pacer.mode = .free) :
    s.startLift = State.freeReleaseAll { s with pacer := { s.pacer with lift := .running } } := by
  rw [State.startLift, hm]

end SetLift

section SetPacing
variable {s : State} {n : Nat} {v : PacingSettings}

theorem setSeats_paced (hm : s.pacer.mode = .paced) :
    setSeats n s =
      ({ s with pacer := { s.pacer with pendingSeats := clamp 1 8 n } }, .seats (clamp 1 8 n) s.pacer.activeSeats) := by
  simp [setSeats, hm]

theorem setSeats_free (hm : s.pacer.mode = .free) :
    setSeats n s =
      ({ s with pacer := { s.pacer with pendingSeats := clamp 1 8 n, activeSeats := clamp 1 8 n } },
        .seats (clamp 1 8 n) (clamp 1 8 n)) := by
  simp [setSeats, hm]

theorem setPacing_outOfRange (h : 2 ≤ n) : setPacing n v s = (s, .outOfRange) := by
  rw [setPacing, modeOf, if_neg (by omega), if_neg (by omega)]

/-- The mode it is in already: the settings stored and the history empty (R126). -/
theorem Pacer.setMode_same (now : Nat) (x : PacingSettings) {p : Pacer} {m : PacingMode} (hm : p.mode = m) :
    p.setMode now m x = { p with settings := x, history := [] } := by
  subst hm
  rcases p with ⟨lift, mode⟩
  cases mode <;> rfl

/-- The change to PACED: TRACKING without an edge or a slot, the lost watch started while RUNNING (R126). -/
theorem Pacer.setMode_toPaced (now : Nat) (x : PacingSettings) {p : Pacer} (hm : p.mode = .free) :
    p.setMode now .paced x =
      { p with
        mode := .paced, settings := x, history := [], tracking := .tracking, lastEdge := none, slot := none
        watchRunning := p.watchRunning || decide (p.lift = .running)
        watchFrom := if p.lift = .running then now else p.watchFrom } := by
  unfold Pacer.setMode
  rw [hm]
  exact Pacer.startWatch_ite now
    { p with mode := .paced, settings := x, history := [], tracking := .tracking, lastEdge := none, slot := none }
    (p.lift = .running)

/-- The change to FREE: no slot, no lost watch, the pending seats loaded (R126, R133). -/
theorem Pacer.setMode_toFree (now : Nat) (x : PacingSettings) {p : Pacer} (hm : p.mode = .paced) :
    p.setMode now .free x =
      { p with
        mode := .free, settings := x, history := [], slot := none, watchRunning := false
        activeSeats := p.pendingSeats } := by
  unfold Pacer.setMode
  rw [hm]

/-- SET PACING that does not change to FREE releases nothing. -/
theorem setPacing_stays {m : PacingMode} (hn : modeOf n = some m) (hm : s.pacer.mode = m ∨ m = .paced) :
    setPacing n v s =
      ({ s with pacer := s.pacer.setMode s.clock m (clampPacing v) }, .pacing m (clampPacing v)) := by
  have hstay : ¬ (s.pacer.mode = .paced ∧ m = .free) := by
    rintro ⟨hpaced, rfl⟩
    rcases hm with hfree | hm
    · cases hpaced.symm.trans hfree
    · cases hm
  simp only [setPacing, hn, if_neg hstay]

/-- The change to FREE releases every lane's HOLDING head (R126). -/
theorem setPacing_toFree (hm : s.pacer.mode = .paced) :
    setPacing 1 v s =
      (State.freeReleaseAll { s with pacer := s.pacer.setMode s.clock .free (clampPacing v) },
        .pacing .free (clampPacing v)) := by
  simp [setPacing, modeOf, hm]

end SetPacing

/-- Settles O44: each request by the lift state and the mode it finds. -/
theorem liftSeatsAndPacingAreSet : Obligations.LiftSeatsAndPacingAreSet := by
  intro tag n v s ht t p lifted paced waiting freed seats low high q
  have hseats : clamp 1 8 n = seats := clamp_eq (by decide)
  have hq : clampPacing v = q := clampPacing_eq v
  have hlift : exec (.setLift consoleLink tag n) s =
      .next ((setLift n t).1.reply consoleLink 48 tag (setLift n t).2) := exec_taken rfl ht rfl rfl
  have hseatsSet : exec (.setSeats consoleLink tag n) s =
      .next ((setSeats n t).1.reply consoleLink 49 tag (setSeats n t).2) := exec_taken rfl ht rfl rfl
  have hpacing : exec (.setPacing consoleLink tag n v) s =
      .next ((setPacing n v t).1.reply consoleLink 50 tag (setPacing n v t).2) := exec_taken rfl ht rfl rfl
  have lifts : ∀ {w a}, setLift n t = (w, a) → lifted w a := fun h => by
    show exec _ s = _
    rw [hlift, h]
  have paces : ∀ {w m}, setPacing n v t = (w, .pacing m q) → paced w m q := fun h => by
    show exec _ s = _
    rw [hpacing, h]
  refine ⟨fun hn => ⟨?_, ?_⟩, fun hn hl => lifts ?_, fun hn hl => lifts ?_, fun hn hl => ⟨fun hm => lifts ?_,
    fun hm => lifts ?_⟩, fun hn hl => lifts ?_, fun hm => ?_, fun hm => ?_, fun hn hm => paces ?_, fun hn hm => paces ?_,
    fun hn hm => paces ?_, fun hn hm => paces ?_⟩
  · rw [hlift, setLift_outOfRange hn]
    rfl
  · rw [hpacing, setPacing_outOfRange hn]
    rfl
  · exact setLift_same (congrArg liftStateOf hn) hl
  · exact setLift_same (congrArg liftStateOf hn) hl
  · rw [hn, setLift_start (s := t) hl, State.startLift_paced (s := t) hm, State.holdingCount_eq, State.holdingCount_eq]
    rfl
  · rw [hn, setLift_start (s := t) hl, State.startLift_free (s := t) hm, State.holdingCount_eq, State.holdingCount_eq]
    rfl
  · rw [hn, setLift_stop (s := t) hl, State.stopLift, funext (LaneUnit.liftStop_eq _)]
    rfl
  · rw [hseatsSet, setSeats_paced (s := t) hm, hseats]
    rfl
  · rw [hseatsSet, setSeats_free (s := t) hm, hseats]
    rfl
  · rw [setPacing_stays (s := t) (congrArg modeOf hn) (.inl hm), Pacer.setMode_same (p := t.pacer) _ _ hm, hq]
    rfl
  · rw [setPacing_stays (s := t) (congrArg modeOf hn) (.inr rfl), Pacer.setMode_toPaced (p := t.pacer) _ _ hm, hq]
    rfl
  · rw [setPacing_stays (s := t) (congrArg modeOf hn) (.inl hm), Pacer.setMode_same (p := t.pacer) _ _ hm, hq]
    rfl
  · rw [hn, setPacing_toFree (s := t) hm, Pacer.setMode_toFree (p := t.pacer) _ _ hm, hq]
    rfl

end Sys2Proof.Machine

/-! ## Carrier edges and the lost watch (R129 to R134) -/

namespace Sys2Proof.Machine

section Edge
variable {s : State} {p : Pacer} {now : Nat}

/-- R129: while TRACKING, an edge too soon after the last accepted one is a bounce. -/
theorem Pacer.classifyEdge_bounce :
    p.classifyEdge now = .bounce ↔
      p.tracking = .tracking ∧ ∃ e, p.lastEdge = some e ∧ now - e < p.settings.intervalMin := by
  unfold Pacer.classifyEdge
  split
  · rename_i hlost
    simp [hlost]
  · rename_i htracking hnone
    simp [hnone]
  · rename_i e htracking hlast
    split_ifs with hmin hmax <;> simp [htracking, hlast, hmin]

theorem exec_carrierEdge_free (hrun : s.run = .running) (hm : s.pacer.mode = .free) :
    exec .carrierEdge s = .next s := by
  show execCarrierEdge s = _
  rw [execCarrierEdge, whenRunning_running hrun, hm]

theorem exec_carrierEdge_bounce (hrun : s.run = .running) (hm : s.pacer.mode = .paced)
    (hk : s.pacer.classifyEdge s.clock = .bounce) : exec .carrierEdge s = .next s := by
  show execCarrierEdge s = _
  rw [execCarrierEdge, whenRunning_running hrun, hm, hk]

theorem exec_carrierEdge_accepted (hrun : s.run = .running) (hm : s.pacer.mode = .paced)
    (hk : s.pacer.classifyEdge s.clock ≠ .bounce) :
    exec .carrierEdge s = .next (s.acceptEdge (s.pacer.classifyEdge s.clock)) := by
  show execCarrierEdge s = _
  rw [execCarrierEdge, whenRunning_running hrun, hm]
  cases hclass : s.pacer.classifyEdge s.clock with
  | bounce => exact absurd hclass hk
  | inPace g => rfl
  | newCarrier => rfl

@[simp] theorem State.regain_clock (s : State) : s.regain.clock = s.clock := by
  unfold State.regain
  split
  · simp
  · rfl

theorem Pacer.edgeWatch_eq (now : Nat) (p : Pacer) :
    p.edgeWatch now =
      { p with
        watchRunning := p.watchRunning || decide (p.lift = .running)
        watchFrom := if p.lift = .running then now else p.watchFrom } := Pacer.startWatch_ite ..

/-- The pacer after an accepted edge: steps 1 to 6 of R129. -/
theorem State.acceptEdge_eq (s : State) (k : EdgeClass) :
    s.acceptEdge k =
      let q := (Pacer.acceptEdge s.clock k { s.pacer with tracking := .tracking }).openSlotNow s.clock
      State.arbitrate { s.regain with pacer := { q with
        watchRunning := s.pacer.watchRunning || decide (s.pacer.lift = .running)
        watchFrom := if s.pacer.lift = .running then s.clock else s.pacer.watchFrom } } := by
  simp only [State.acceptEdge, State.regain_pacer, Pacer.edgeWatch_eq]
  rw [State.regain_clock]
  rfl

/-- The history after an accepted edge: the interval since the last accepted edge enters it while TRACKING, when it is at
most the interval max (R129, R130). -/
def Pacer.historyAfter (now : Nat) (p : Pacer) : List Nat :=
  match p.tracking, p.lastEdge with
  | .tracking, some e => if now - e ≤ p.settings.intervalMax then historyPush p.history (now - e) else p.history
  | .tracking, none => p.history
  | .lost, _ => p.history

theorem Pacer.acceptEdge_history (hk : p.classifyEdge now ≠ .bounce) :
    (p.acceptEdge now (p.classifyEdge now)).history = p.historyAfter now := by
  have hbounce := mt Pacer.classifyEdge_bounce.mpr hk
  unfold Pacer.acceptEdge Pacer.classifyEdge Pacer.historyAfter
  cases htracking : p.tracking with
  | lost => rfl
  | tracking =>
    cases hlast : p.lastEdge with
    | none => rfl
    | some e =>
      have hmin : ¬ now - e < p.settings.intervalMin := fun h => hbounce ⟨htracking, e, hlast, h⟩
      by_cases hmax : now - e ≤ p.settings.intervalMax <;> simp [hmin, hmax]

theorem exec_lostWatchExpiry_stopped (hrun : s.run = .running) (hw : s.pacer.watchRunning = false) :
    exec .lostWatchExpiry s = .next s := by
  show execLostWatchExpiry s = _
  rw [execLostWatchExpiry, whenRunning_running hrun, hw]
  rfl

theorem exec_lostWatchExpiry_fires (hrun : s.run = .running) (hw : s.pacer.watchRunning = true) :
    exec .lostWatchExpiry s = .next (State.raise (State.append { s with
      clock := max s.clock (s.pacer.watchFrom + s.pacer.settings.intervalMax + 1)
      pacer := { s.pacer with
        tracking := .lost, watchRunning := false
        counts := { s.pacer.counts with carrierLosses := satAdd s.pacer.counts.carrierLosses 1 } } }
      .carrierLost) (.lift .carrierLost)) := by
  show execLostWatchExpiry s = _
  rw [execLostWatchExpiry, whenRunning_running hrun, if_pos hw]
  rfl

end Edge

/-- Settles O45: an edge by `Pacer.classifyEdge`, the pacer of an accepted one by the steps of R129. -/
theorem carrierEdgesOpenSlots : Obligations.CarrierEdgesOpenSlots := by
  intro s hrun p bounce regained history estimate
  refine ⟨exec_carrierEdge_free hrun, fun hm hb => exec_carrierEdge_bounce hrun hm (Pacer.classifyEdge_bounce.mpr hb),
    fun hm hb => ?_, exec_lostWatchExpiry_stopped hrun, exec_lostWatchExpiry_fires hrun⟩
  have hk : p.classifyEdge s.clock ≠ .bounce := mt Pacer.classifyEdge_bounce.mp hb
  have hhistory : (p.acceptEdge s.clock (p.classifyEdge s.clock)).history = history := Pacer.acceptEdge_history hk
  have haccepted : Pacer.acceptEdge s.clock (p.classifyEdge s.clock) { p with tracking := .tracking } =
      { p with
        tracking := .tracking, history := history, lastEdge := some s.clock, activeSeats := p.pendingSeats } := by
    rw [← hhistory]
    rfl
  rw [exec_carrierEdge_accepted hrun hm hk, State.acceptEdge_eq, haccepted]
  rfl

end Sys2Proof.Machine

/-! ## Refunds (R141 to R152) -/

namespace Sys2Proof.Machine

/-! ### The stages of a quote (R144 to R147) -/

theorem residue_eq_sub (paid c : Nat) : residue paid c = paid - c := by
  unfold residue
  split <;> omega

theorem afterFee_eq_sub (n fee : Nat) : afterFee n fee = n - fee := by
  unfold afterFee
  split <;> omega

theorem rounded_eq_mul_div (g quantum : Nat) : rounded g quantum = quantum * (g / quantum) :=
  Nat.sub_eq_of_eq_add (Nat.div_add_mod g quantum).symm

/-- Settles O27: `quoteOf` writes the subtractions that stop at 0 as case splits, and the rounding as a remainder. -/
theorem quoteFollowsTheStages : Obligations.QuoteFollowsTheStages := by
  intro p t full half c a v n g
  unfold quoteOf
  simp only [residue_eq_sub, afterFee_eq_sub, rounded_eq_mul_div]
  rfl

theorem proRata_le (paid days full half : Nat) : proRata paid days full half ≤ paid :=
  Nat.div_le_of_le_mul <| by
    calc paid * (2 * days - 2 * full - half) ≤ paid * (2 * days) := Nat.mul_le_mul_left _ (by omega)
      _ = 2 * days * paid := Nat.mul_comm _ _

theorem afterFraction_le_min {a p fraction : Nat} (h : fraction ≤ 10000) : afterFraction a p fraction ≤ min a p :=
  Nat.div_le_of_le_mul <| by
    calc min a p * fraction ≤ min a p * 10000 := Nat.mul_le_mul_left _ h
      _ = 10000 * min a p := Nat.mul_comm _ _

/-- The last stage: 0 under the over-use flag, else G rounded down (R146, R147). -/
theorem quoteOf_refund (p : Pass) (t : Tariff) :
    (quoteOf p t).refund = if p.overUse then 0 else rounded (quoteOf p t).afterFee t.quantum := rfl

theorem quantum_dvd_refund (p : Pass) (t : Tariff) : t.quantum ∣ (quoteOf p t).refund := by
  rw [quoteOf_refund]
  split
  · exact dvd_zero _
  · rw [rounded_eq_mul_div]
    exact dvd_mul_right _ _

theorem refund_le_afterFee (p : Pass) (t : Tariff) : (quoteOf p t).refund ≤ (quoteOf p t).afterFee := by
  rw [quoteOf_refund]
  split
  · exact Nat.zero_le _
  · exact rounded_le _ _

/-! ### QUOTE REFUND and SETTLE REFUND on a record (R141, R148, R150) -/

section Settle
variable {s : State} {p : Pass} {generation : Nat}

/-- The settle day is the last-opened day in every day state (R44, R150). -/
theorem settleDay_eq (s : State) : settleDay s = s.lastOpened := by
  unfold settleDay State.currentDay
  split <;> rfl

theorem settleRefused_surrendered (hp : p.state = .surrendered) {x : Settlement} (hx : p.settlement = some x) :
    settleRefused s p = some (.settledDetail x.refund x.settleDay) := by
  simp [settleRefused, hp, hx]

theorem settleRefused_pending (hp : p.state ≠ .surrendered) {i : LaneNo} {place : Nat} {c : Credit}
    (hc : s.creditOf p.number = some (i, place, c)) : settleRefused s p = some (.creditPending i c.number) := by
  simp [settleRefused, hp, hc]

theorem settleRefused_eq_none (hp : p.state ≠ .surrendered) (hc : s.creditOf p.number = none) :
    settleRefused s p = none := by
  simp [settleRefused, hp, hc]

theorem quoteRefund_refused {a : Answer} (h : settleRefused s p = some a) : quoteRefund p s = (s, a) := by
  simp [quoteRefund, h]

theorem quoteRefund_quoted (h : settleRefused s p = none) :
    quoteRefund p s = (s, .quote (quoteOf p (s.tariffOf p.cls))) := by
  simp [quoteRefund, h]

theorem settleRefund_refused {a : Answer} (h : settleRefused s p = some a) :
    settleRefund generation p s = (s, a) := by
  simp [settleRefund, h]

theorem settleRefund_stale (h : settleRefused s p = none) (hg : generation ≠ p.generation) :
    settleRefund generation p s = (s, .stale p.generation) := by
  simp [settleRefund, h, hg]

theorem settleRefund_noDay (h : settleRefused s p = none) (hd : s.lastOpened = 0) :
    settleRefund p.generation p s = (s, .noDay) := by
  simp [settleRefund, h, hd]

theorem settleRefund_settled (h : settleRefused s p = none) (hd : s.lastOpened ≠ 0) :
    settleRefund p.generation p s =
      let q := quoteOf p (s.tariffOf p.cls)
      ((s.modPass p.number (Pass.settle q s.lastOpened p.generation)).append
          (.settlement p.number q.refund q.full q.half p.generation),
        .settledNow q s.lastOpened p.generation (bump p.generation)) := by
  simp [settleRefund, h, hd, settleDay_eq]

end Settle

theorem State.tariffOf_val (s : State) (k : Fin 8) : s.tariffOf k.val = s.tariffs.get k := by
  simp [State.tariffOf, classIndex_val]

/-- Settles O29: checks 3 and 4 answer both requests alike, then the settlement makes its own two. -/
theorem quoteThenSettle : Obligations.QuoteThenSettle := by
  intro tag n generation s p ht hlo hhi hp quoted run
  obtain ⟨-, rfl⟩ := State.findPass_eq_some hp
  have hn : passNumberOk p.number = true := passNumberOk_iff.mpr ⟨hlo, hhi⟩
  let t := s.taken officeLink
  have hquote : exec (.quoteRefund officeLink tag p.number) s =
      .next ((quoteRefund p t).1.reply officeLink 23 tag (quoteRefund p t).2) := exec_onPass_found rfl ht rfl rfl hn hp
  have hrun : run = .next ((settleRefund generation p t).1.reply officeLink 24 tag (settleRefund generation p t).2) :=
    exec_onPass_found rfl ht rfl rfl hn hp
  have refused : ∀ {a}, settleRefused t p = some a → quoted a ∧ run = .next (s.answered officeLink 24 tag a) :=
    fun h => by
      show exec _ s = _ ∧ _
      rw [hquote, hrun, quoteRefund_refused h, settleRefund_refused h]
      exact ⟨rfl, rfl⟩
  refine ⟨fun x hs hx => refused (settleRefused_surrendered hs hx), fun i place c hs hc => refused ?_,
    fun k hk hs hc => ?_⟩
  · exact settleRefused_pending hs ((s.taken_creditOf _ _).trans hc)
  · have hnone : settleRefused t p = none :=
      settleRefused_eq_none hs ((s.taken_creditOf _ _).trans (State.creditOf_eq_none.mpr hc))
    have hclass : t.tariffOf p.cls = s.tariffs.get k := by
      rw [hk, State.tariffOf_val]
      rfl
    refine ⟨?_, fun hg => ?_, fun hg hd => ?_, fun hg hd => ?_⟩
    · show exec _ s = _
      rw [hquote, quoteRefund_quoted hnone, hclass]
      rfl
    · rw [hrun, settleRefund_stale hnone hg]
      rfl
    · rw [hrun, hg, settleRefund_noDay hnone hd]
      rfl
    · rw [hrun, hg, settleRefund_settled hnone hd, hclass]
      rfl

end Sys2Proof.Machine

/-! ## What stays settled (R147, R152)

An event that is no request leaves, of every record that is still there, its number, whether it is SURRENDERED and its
settlement part: its seal. So does every request but LOAD PASS, whose record is new, and SETTLE REFUND. -/

namespace Sys2Proof.Machine

/-! ### Seals -/

/-- A record's number, whether it is SURRENDERED, and its settlement part. -/
def Pass.seal (p : Pass) : Nat × Bool × Option Settlement := (p.number, decide (p.state = .surrendered), p.settlement)

/-- The seals of the table. -/
def State.seals (s : State) : List (Nat × Bool × Option Settlement) := s.passes.map Pass.seal

/-- No record of the second state has a seal that none of the first has. -/
def SealsFrom (s t : State) : Prop := t.seals ⊆ s.seals

variable {s t : State}

theorem State.seals_congr (h : t.passes = s.passes) : t.seals = s.seals := congrArg (List.map Pass.seal) h

@[simp] theorem State.waitUntil_seals (s : State) (n : Nat) : (s.waitUntil n).seals = s.seals := rfl
@[simp] theorem State.modLane_seals (s : State) (i : LaneNo) (f : LaneUnit → LaneUnit) :
    (s.modLane i f).seals = s.seals := rfl
@[simp] theorem State.append_seals (s : State) (b : JournalBody) : (s.append b).seals = s.seals := rfl
@[simp] theorem State.raiseAt_seals (s : State) (k : LaneEvent) (i : LaneNo) : (s.raiseAt k i).seals = s.seals :=
  State.seals_congr (s.raise_passes _)

theorem State.modPass_seals (s : State) (n : Nat) {f : Pass → Pass} (hf : ∀ p, (f p).seal = p.seal) :
    (s.modPass n f).seals = s.seals := by
  simp only [State.seals, State.modPass_passes, List.map_map]
  refine List.map_congr_left fun p _ => ?_
  dsimp only [Function.comp]
  split
  · exact hf p
  · rfl

theorem SealsFrom.refl (s : State) : SealsFrom s s := List.Subset.refl _

theorem SealsFrom.trans {r : State} (h : SealsFrom s t) (k : SealsFrom t r) : SealsFrom s r :=
  List.Subset.trans k h

theorem SealsFrom.of_eq (h : t.seals = s.seals) : SealsFrom s t := fun _ hx => h ▸ hx

theorem SealsFrom.of_passes (h : t.passes = s.passes) : SealsFrom s t := .of_eq (State.seals_congr h)

/-- A change of the records a number keys that puts no new seal in the table. -/
theorem SealsFrom.modPass {n : Nat} {f : Pass → Pass} (hf : ∀ p ∈ s.passes, p.number = n → (f p).seal ∈ s.seals) :
    SealsFrom s (s.modPass n f) := by
  intro x hx
  obtain ⟨q, hq, rfl⟩ := List.mem_map.mp hx
  obtain ⟨p, hp, rfl⟩ := List.mem_map.mp hq
  split
  · exact hf p hp ‹_›
  · exact List.mem_map_of_mem hp

/-! ### Operations that leave the table alone -/

@[simp] theorem State.tryUnlock_passes (s : State) (i : LaneNo) : (s.tryUnlock i).passes = s.passes := by
  rw [State.tryUnlock_eq]; rfl
@[simp] theorem State.freeRelease_passes (s : State) (i : LaneNo) : (s.freeRelease i).passes = s.passes := by
  obtain ⟨u, e⟩ := s.freeRelease_eq i
  rw [e]; rfl
@[simp] theorem State.freeReleaseAll_passes (s : State) : s.freeReleaseAll.passes = s.passes := by
  rw [State.freeReleaseAll_eq]
@[simp] theorem State.arbitrate_passes (s : State) : s.arbitrate.passes = s.passes := by rw [State.arbitrate_eq]
@[simp] theorem State.offer_passes (s : State) (i : LaneNo) : (s.offer i).passes = s.passes := by rw [State.offer_eq]
@[simp] theorem State.homeRelease_passes (s : State) (i : LaneNo) : (s.homeRelease i).passes = s.passes := by
  unfold State.homeRelease
  dsimp only
  split <;> simp
@[simp] theorem State.raiseAt_passes (s : State) (k : LaneEvent) (i : LaneNo) : (s.raiseAt k i).passes = s.passes :=
  s.raise_passes _
@[simp] theorem State.countUntagged_passes (s : State) (i : LaneNo) (cause : UntaggedCause) :
    (s.countUntagged i cause).passes = s.passes := by simp [State.countUntagged]
@[simp] theorem State.countBackout_passes (s : State) (i : LaneNo) (r : Rotation) :
    (s.countBackout i r).passes = s.passes := by simp [State.countBackout]
@[simp] theorem State.countRotation_passes (s : State) (i : LaneNo) (left : Tracker) (r : Rotation) :
    (s.countRotation i left r).passes = s.passes := by
  unfold State.countRotation
  dsimp only
  split_ifs <;> simp
@[simp] theorem State.laterCause_passes (s : State) (i : LaneNo) (cause : FaultCause) :
    (s.laterCause i cause).passes = s.passes := by
  unfold State.laterCause
  split <;> simp
@[simp] theorem State.regain_passes (s : State) : s.regain.passes = s.passes := by
  unfold State.regain
  split
  · simp
  · rfl
@[simp] theorem State.acceptEdge_passes (s : State) (k : EdgeClass) : (s.acceptEdge k).passes = s.passes := by
  simp [State.acceptEdge]

/-- A byte that is not the last of CLEAR ALL's answer touches the office link alone. -/
theorem State.clockOut_passes (h : s.clearsNow = false) : s.clockOut.passes = s.passes := by
  unfold State.clearsNow at h
  cases ho : (s.link officeLink).output with
  | nil => simp [State.clockOut, ho, State.clockIdle]
  | cons a as =>
    cases hf : s.fillerNow with
    | true =>
      have hout : s.clockOut = s.useFiller.clockIdle := by simp [State.clockOut, ho, hf]
      rw [hout, s.useFiller_eq]
      rfl
    | false =>
      have hlast : a.answer = .cleared → s.office.readPos + 1 < a.bytes.length := by simpa [ho, hf] using h
      obtain ⟨-, out, slot, driver, e⟩ := s.clockOut_eq (by simpa [ho] using hlast)
      rw [e]
      rfl

/-! ### Operations that change records below their seals -/

theorem State.settleLink_seals (s : State) (c : Credit) (o : CreditOutcome) : (s.settleLink c o).seals = s.seals := by
  unfold State.settleLink
  split
  · exact s.modPass_seals _ fun _ => rfl
  · rfl

theorem State.writePassage_seals (s : State) (i : LaneNo) (c : Credit) : (s.writePassage i c).seals = s.seals :=
  s.modPass_seals c.pass fun _ => rfl

@[simp] theorem State.endCredit_seals (s : State) (i : LaneNo) (place : Nat) (o : CreditOutcome) :
    (s.endCredit i place o).seals = s.seals := by
  cases hc : (s.lane i).queue[place]? with
  | none => rw [State.endCredit_none hc]
  | some c =>
    have hlink := s.settleLink_seals c o
    rw [State.seals, State.endCredit_passes hc]
    split
    · exact (State.writePassage_seals _ i c).trans hlink
    · exact hlink

@[simp] theorem State.endHead_seals (s : State) (i : LaneNo) (o : CreditOutcome) : (s.endHead i o).seals = s.seals :=
  (State.seals_congr (State.offer_passes _ i)).trans (s.endCredit_seals i 0 o)

theorem withdrawFrom_seals (i : LaneNo) (cause : Cause) (which : Credit → Bool) (q : List Credit) (place : Nat)
    (s : State) : (withdrawFrom i cause which q place s).seals = s.seals := by
  induction q generalizing s place with
  | nil => rfl
  | cons c cs ih =>
    unfold withdrawFrom
    split
    · rw [ih, State.endCredit_seals]
    · exact ih _ _

@[simp] theorem State.withdraw_seals (s : State) (i : LaneNo) (cause : Cause) (which : Credit → Bool) :
    (s.withdraw i cause which).seals = s.seals := withdrawFrom_seals i cause which _ 0 s

theorem State.withdrawAll_seals (s : State) : s.withdrawAll.seals = s.seals := by
  have key : ∀ (is : List LaneNo) (t : State),
      (is.foldl (fun t i => t.withdraw i .dayClosing Credit.notUnlocked) t).seals = t.seals := by
    intro is
    induction is with
    | nil => exact fun _ => rfl
    | cons i is ih => exact fun t => (ih _).trans (t.withdraw_seals i _ _)
  exact key _ s

theorem State.closeInService_seals (s : State) (i : LaneNo) : (s.closeInService i).seals = s.seals :=
  s.withdraw_seals i _ _

@[simp] theorem State.enterFault_seals (s : State) (i : LaneNo) (cause : FaultCause) :
    (s.enterFault i cause).seals = s.seals := by simp [State.enterFault]

@[simp] theorem State.detect_seals (s : State) (i : LaneNo) (cause : FaultCause) :
    (s.detect i cause).seals = s.seals := by
  unfold State.detect
  split
  · exact State.seals_congr (s.laterCause_passes i cause)
  · exact s.enterFault_seals i cause

theorem State.backoutCredit_seals (s : State) (i : LaneNo) (r : Rotation) : (s.backoutCredit i r).seals = s.seals := by
  unfold State.backoutCredit
  split_ifs
  · exact s.endHead_seals i _
  · exact s.endHead_seals i _
  · exact s.endHead_seals i _
  · rfl

theorem State.returnHome_seals (s : State) (i : LaneNo) (r : Rotation) : (s.returnHome i r).seals = s.seals := by
  have hcount : ((s.modLane i LaneUnit.atHome).countRotation i (s.lane i).tracker r).seals = s.seals :=
    State.seals_congr (State.countRotation_passes _ i _ r)
  have htail : ∀ m : State,
      (((m.modLane i LaneUnit.offIfDrained).homeRelease i).modLane i (LaneUnit.watchBeam
        ((m.modLane i LaneUnit.offIfDrained).homeRelease i).clock)).seals = m.seals :=
    fun m => State.seals_congr (State.homeRelease_passes _ i)
  unfold State.returnHome
  refine (htail _).trans ?_
  split
  · exact (State.backoutCredit_seals _ i r).trans hcount
  · exact hcount

/-! ### Starts -/

/-- A warm start keeps the seals; a cold one leaves no record (R181, R183). -/
theorem SealsFrom.start (s : State) (kind : StartKind) (cause : StartCause) : SealsFrom s (s.start kind cause) := by
  have hrestart : ∀ (m : State) (old : Option DayState × Nat × Nat), (m.restart kind cause old).seals = m.seals :=
    fun m _ => (List.map_map ..).trans (List.map_congr_left fun _ _ => rfl)
  unfold State.start SealsFrom
  dsimp only
  rw [State.seals_congr (State.append_passes _ _), hrestart]
  split
  · exact List.nil_subset _
  · exact List.Subset.refl _

theorem SealsFrom.officeSent (s : State) (a : OutAnswer) : SealsFrom s (s.officeSent a) := by
  unfold State.officeSent
  split
  · exact SealsFrom.start s .cold .clearAll
  · exact SealsFrom.refl s

theorem SealsFrom.clockOut (s : State) : SealsFrom s s.clockOut := by
  have hfiller : s.useFiller.seals = s.seals := State.seals_congr (by rw [State.useFiller_eq])
  unfold State.clockOut
  split
  · exact SealsFrom.refl s
  · split
    · exact .of_eq hfiller
    · unfold State.clockByte
      split
      · exact .of_eq hfiller
      · exact (SealsFrom.of_eq hfiller).trans (SealsFrom.officeSent s.useFiller _)

end Sys2Proof.Machine

/-! ## What events leave settled -/

namespace Sys2Proof.Machine

variable {s : State}

/-! ### Lane events -/

theorem sealsFrom_rotorLeave (i : LaneNo) : Gives (SealsFrom s) (execRotorLeave i s) := by
  refine gives_whenRunning (SealsFrom.refl s) ?_
  exact SealsFrom.refl s

theorem sealsFrom_mid (i : LaneNo) : Gives (SealsFrom s) (execMid i s) := by
  refine gives_whenRunning (SealsFrom.refl s) ?_
  dsimp only
  split_ifs
  · exact .of_eq ((s.modLane i _).endHead_seals i _)
  · exact SealsFrom.refl s
  · exact SealsFrom.refl s

theorem sealsFrom_returnToHome (i : LaneNo) : Gives (SealsFrom s) (execReturnToHome i s) := by
  refine gives_whenRunning (SealsFrom.refl s) ?_
  split_ifs
  · split
    · exact .of_eq (s.returnHome_seals i _)
    · exact SealsFrom.refl s
  · exact SealsFrom.refl s

theorem sealsFrom_beamSample (i : LaneNo) (level : Nat) : Gives (SealsFrom s) (execBeamSample i level s) := by
  refine gives_whenRunning (SealsFrom.refl s) ?_
  dsimp only
  split
  · exact SealsFrom.refl s
  · split
    · exact .of_eq ((s.modLane i _).detect_seals i _)
    · exact SealsFrom.refl s

theorem sealsFrom_beamBlockedExpiry (i : LaneNo) : Gives (SealsFrom s) (execBeamBlockedExpiry i s) := by
  refine gives_whenRunning (SealsFrom.refl s) ?_
  split
  · exact SealsFrom.refl s
  · exact .of_passes (by simp)

theorem sealsFrom_settleExpiry (i : LaneNo) (home : Bool) : Gives (SealsFrom s) (execSettleExpiry i home s) := by
  refine gives_whenRunning (SealsFrom.refl s) ?_
  dsimp only
  split
  · exact SealsFrom.refl s
  · split
    · exact .of_passes (by simp)
    · exact .of_eq (((s.waitUntil _).modLane i _).enterFault_seals i _)

theorem sealsFrom_creditLifeExpiry (i : LaneNo) (credit : Nat) :
    Gives (SealsFrom s) (execCreditLifeExpiry i credit s) := by
  refine gives_whenRunning (SealsFrom.refl s) ?_
  dsimp only
  split
  · exact SealsFrom.refl s
  · split
    · exact .of_eq ((s.waitUntil _).endHead_seals i _)
    · exact .of_eq ((s.waitUntil _).endCredit_seals i _ _)

theorem sealsFrom_unlockStart (i : LaneNo) : Gives (SealsFrom s) (execUnlockStart i s) := by
  refine gives_whenRunning (SealsFrom.refl s) ?_
  split
  · exact SealsFrom.refl s
  · split
    · exact .of_passes (by simp)
    · exact SealsFrom.refl s

theorem sealsFrom_unlockEnd (i : LaneNo) : Gives (SealsFrom s) (execUnlockEnd i s) := by
  refine gives_whenRunning (SealsFrom.refl s) ?_
  split
  · exact SealsFrom.refl s
  · split
    · exact .of_eq ((s.waitUntil _).endHead_seals i _)
    · exact SealsFrom.refl s
    · exact SealsFrom.refl s

theorem sealsFrom_passageLimitExpiry (i : LaneNo) : Gives (SealsFrom s) (execPassageLimitExpiry i s) := by
  refine gives_whenRunning (SealsFrom.refl s) ?_
  dsimp only
  split
  · exact SealsFrom.refl s
  · exact .of_eq (((s.waitUntil _).modLane i _).detect_seals i _)

theorem sealsFrom_silenceExpiry (i : LaneNo) : Gives (SealsFrom s) (execSilenceExpiry i s) := by
  refine gives_whenRunning (SealsFrom.refl s) ?_
  dsimp only
  split
  · exact SealsFrom.refl s
  · exact .of_eq (by simp)

/-! ### The pacer, the links and the starts -/

theorem sealsFrom_carrierEdge : Gives (SealsFrom s) (execCarrierEdge s) := by
  refine gives_whenRunning (SealsFrom.refl s) ?_
  split
  · exact SealsFrom.refl s
  · split
    · exact SealsFrom.refl s
    · exact .of_passes (s.acceptEdge_passes _)
    · exact .of_passes (s.acceptEdge_passes _)

theorem sealsFrom_lostWatchExpiry : Gives (SealsFrom s) (execLostWatchExpiry s) := by
  refine gives_whenRunning (SealsFrom.refl s) ?_
  dsimp only
  split
  · exact .of_passes (by simp)
  · exact SealsFrom.refl s

theorem sealsFrom_frameDiscarded (l : LinkNo) : Gives (SealsFrom s) (execFrameDiscarded l s) := by
  refine gives_whenRunning (SealsFrom.refl s) ?_
  split <;> exact SealsFrom.refl s

theorem sealsFrom_byteError (l : LinkNo) : Gives (SealsFrom s) (execByteError l s) := by
  refine gives_whenRunning (SealsFrom.refl s) ?_
  split <;> exact SealsFrom.refl s

theorem sealsFrom_chipSelectRelease : Gives (SealsFrom s) (execChipSelectRelease s) := by
  refine gives_whenRunning (SealsFrom.refl s) ?_
  exact SealsFrom.refl s

theorem sealsFrom_frameGapExpiry (l : LinkNo) : Gives (SealsFrom s) (execFrameGapExpiry l s) := by
  refine gives_whenRunning (SealsFrom.refl s) ?_
  split
  · exact SealsFrom.refl s
  · split <;> exact SealsFrom.refl s

theorem sealsFrom_answerSendBegin (l : LinkNo) : Gives (SealsFrom s) (execAnswerSendBegin l s) := by
  refine gives_whenRunning (SealsFrom.refl s) ?_
  dsimp only
  split
  · exact SealsFrom.refl s
  · split_ifs <;> exact SealsFrom.refl s

theorem sealsFrom_answerSent (l : LinkNo) : Gives (SealsFrom s) (execAnswerSent l s) := by
  refine gives_whenRunning (SealsFrom.refl s) ?_
  split
  · exact SealsFrom.refl s
  · split
    · exact SealsFrom.refl s
    · exact SealsFrom.officeSent s _

theorem sealsFrom_clearAllStart : Gives (SealsFrom s) (execClearAllStart s) := by
  refine gives_whenRunning (SealsFrom.refl s) ?_
  split
  · exact SealsFrom.start s .cold .clearAll
  · exact SealsFrom.refl s

theorem sealsFrom_powerUp (retainOk : Bool) : Gives (SealsFrom s) (execPowerUp retainOk s) := by
  refine gives_next.mpr ?_
  split
  case h_2 => exact SealsFrom.start s _ _
  all_goals exact SealsFrom.refl s

theorem sealsFrom_resetAsserted : Gives (SealsFrom s) (execResetAsserted s) := by
  refine gives_next.mpr ?_
  split <;> exact SealsFrom.refl s

theorem sealsFrom_resetReleased : Gives (SealsFrom s) (execResetReleased s) := by
  refine gives_next.mpr ?_
  split
  case h_1 | h_2 => exact SealsFrom.start s _ _
  all_goals exact SealsFrom.refl s

theorem sealsFrom_powerLoss : Gives (SealsFrom s) (execPowerLoss s) := by
  refine gives_next.mpr ?_
  split <;> exact SealsFrom.refl s

end Sys2Proof.Machine

/-! ## What requests leave settled -/

namespace Sys2Proof.Machine

/-! ### Refunds that stay (R147) -/

/-- A record and the one that its number keys later: what was settled stays, and what was not can come to hold this
refund alone. -/
structure RefundKept (refund : Nat) (p q : Pass) : Prop where
  stored : p.state = .surrendered → q.state = .surrendered ∧ q.settlement = p.settlement
  settledNow : p.state ≠ .surrendered → ∀ x ∈ q.settlement, x.refund = refund

/-- Every record of the second state with the number of one of the first holds no refund but the one stored there or the
one quoted there. -/
def RefundsKept (s t : State) : Prop :=
  ∀ p ∈ s.passes, ∀ q ∈ t.passes, q.number = p.number → RefundKept (quoteOf p (s.tariffOf p.cls)).refund p q

theorem RecordLaw.refundKept {p : Pass} (h : RecordLaw p) (refund : Nat) : RefundKept refund p p :=
  ⟨fun hp => ⟨hp, rfl⟩, fun hp _ hx => absurd (h.settled.mpr (Option.isSome_of_mem hx)) hp⟩

/-- A record's seal says what is kept of its refund. -/
theorem RefundKept.of_seal {refund : Nat} {p q r : Pass} (h : RefundKept refund p q) (hr : r.seal = q.seal) :
    RefundKept refund p r := by
  obtain ⟨-, hr⟩ := Prod.mk.inj hr
  obtain ⟨hstate, hsettlement⟩ := Prod.mk.inj hr
  have hstate : r.state = .surrendered ↔ q.state = .surrendered := decide_eq_decide.mp hstate
  refine ⟨fun hp => ?_, hsettlement ▸ h.settledNow⟩
  obtain ⟨hq, hstored⟩ := h.stored hp
  exact ⟨hstate.mpr hq, hsettlement.trans hstored⟩

variable {s t r : State}

/-- Later changes that put no new seal in the table keep what is kept. -/
theorem RefundsKept.sealed (h : RefundsKept s t) (hr : SealsFrom t r) : RefundsKept s r := by
  intro p hp q hq hn
  obtain ⟨m, hm, hseal⟩ := List.mem_map.mp (hr (List.mem_map_of_mem hq))
  have hmq : m.number = q.number := congrArg Prod.fst hseal
  exact (h p hp m hm (hmq.trans hn)).of_seal hseal.symm

theorem RefundsKept.refl (h : s.TableKept) : RefundsKept s s := by
  intro p hp q hq hn
  obtain rfl := eq_of_number_eq h.ascending hq hp hn
  exact (h.records q hq).refundKept _

theorem SealsFrom.refundsKept (hr : SealsFrom s t) (h : s.TableKept) : RefundsKept s t := (RefundsKept.refl h).sealed hr

/-- Records and tariffs decide what is kept of a state. -/
theorem RefundsKept.congr (h : RefundsKept t r) (hp : t.passes = s.passes) (ht : t.tariffs = s.tariffs) :
    RefundsKept s r := by
  unfold RefundsKept State.tariffOf at *
  rwa [hp, ht] at h

/-- A request's action keeps refunds. -/
def KeepsRefunds (act : State → State × Answer) : Prop := ∀ s : State, s.TableKept → RefundsKept s (act s).1

/-- An action that puts no new seal in the table. -/
theorem keepsRefunds_of_seals {act : State → State × Answer} (h : ∀ s, SealsFrom s (act s).1) : KeepsRefunds act :=
  fun s => (h s).refundsKept

/-- An action that leaves the table alone. -/
theorem keepsRefunds_of_passes {act : State → State × Answer} (h : ∀ s, (act s).1.passes = s.passes) :
    KeepsRefunds act := keepsRefunds_of_seals fun s => .of_passes (h s)

theorem keepsRefunds_report (f : State → Answer) : KeepsRefunds (report f) := keepsRefunds_of_passes fun _ => rfl

theorem keepsRefunds_onLinkLane {l : LinkNo} {act : LaneNo → State → State × Answer} (h : ∀ i, KeepsRefunds (act i)) :
    KeepsRefunds (onLinkLane l act) := by
  intro s hs
  unfold onLinkLane
  split
  · exact h _ s hs
  · exact .refl hs

theorem keepsRefunds_onLane {lane : Nat} {act : LaneNo → State → State × Answer} (h : ∀ i, KeepsRefunds (act i)) :
    KeepsRefunds (onLane lane act) := by
  intro s hs
  unfold onLane
  split
  · exact h _ s hs
  · exact .refl hs

/-- A request that names a pass keeps refunds if it does so on the record found. -/
theorem keepsRefunds_onPass {n : Nat} {act : Pass → State → State × Answer}
    (h : ∀ (s : State) (p : Pass), s.findPass p.number = some p → s.TableKept → RefundsKept s (act p s).1) :
    KeepsRefunds (onPass n act) := by
  intro s hs
  unfold onPass
  split
  · exact .refl hs
  · split
    · exact .refl hs
    · rename_i p hp
      obtain rfl := (State.findPass_eq_some hp).2
      exact h s p hp hs

/-! ### SETTLE REFUND (R150) -/

/-- The record found is settled with its own quote. -/
theorem RefundsKept.settle (h : s.TableKept) {p : Pass} (hp : s.findPass p.number = some p)
    (hs : p.state ≠ .surrendered) (day generation : Nat) :
    RefundsKept s (s.modPass p.number (Pass.settle (quoteOf p (s.tariffOf p.cls)) day generation)) := by
  intro p' hp' q hq hn
  obtain ⟨m, hm, rfl⟩ := List.mem_map.mp hq
  have hmn : m.number = p'.number := by
    refine Eq.trans ?_ hn
    split <;> rfl
  split
  · obtain rfl := h.eq_of_findPass hp hm ‹_›
    obtain rfl := eq_of_number_eq h.ascending hm hp' hmn
    refine ⟨fun e => absurd e hs, fun _ x hx => ?_⟩
    obtain rfl := Option.some.inj hx
    rfl
  · obtain rfl := eq_of_number_eq h.ascending hm hp' hmn
    exact (h.records m hm).refundKept _

theorem settleRefused_ne_surrendered {p : Pass} (h : settleRefused s p = none) : p.state ≠ .surrendered := fun hs => by
  simp [settleRefused, hs] at h

theorem keepsRefunds_settleRefund (n generation : Nat) : KeepsRefunds (onPass n (settleRefund generation)) := by
  refine keepsRefunds_onPass fun s p hp h => ?_
  unfold settleRefund
  split
  · exact .refl h
  · split_ifs
    · exact .refl h
    · exact .refl h
    · exact RefundsKept.settle h hp (settleRefused_ne_surrendered ‹_›) _ _

theorem keepsRefunds_quoteRefund (n : Nat) : KeepsRefunds (onPass n quoteRefund) := by
  refine keepsRefunds_onPass fun s p _ h => ?_
  unfold quoteRefund
  split <;> exact .refl h

/-! ### The Pass Table's own requests (R11 to R17, R30 to R35) -/

theorem keepsRefunds_loadPass (n check cls days paid first last : Nat) :
    KeepsRefunds (loadPass n check cls days paid first last) := by
  intro s h
  unfold loadPass
  split_ifs with hrange hdup hfull hpool
  · exact .refl h
  · exact .refl h
  · exact .refl h
  · have hnew : ∀ p ∈ s.passes, p.number ≠ n := State.findPass_eq_none.mp (by simpa using hdup)
    intro p hp q hq hn
    rcases (mem_insertPass _ _ _).mp hq with rfl | hq
    · exact absurd hn.symm (hnew p hp)
    · exact RefundsKept.refl h p hp q hq hn
  · exact .refl h

theorem keepsRefunds_amendPass (n presence : Nat) (a : Amendment) : KeepsRefunds (amendPass n presence a) := by
  refine keepsRefunds_of_seals fun s => ?_
  unfold amendPass
  split
  · exact SealsFrom.refl s
  · split
    · exact SealsFrom.refl s
    · split_ifs
      · exact SealsFrom.refl s
      · exact SealsFrom.refl s
      · exact SealsFrom.refl s
      · exact SealsFrom.refl s
      · exact .of_eq (State.modPass_seals { s with free := _ } n fun _ => rfl)

/-- Another state for a record found that is not SURRENDERED (R14, R16). -/
theorem SealsFrom.withState (h : s.TableKept) {p : Pass} (hp : s.findPass p.number = some p)
    (hs : p.state ≠ .surrendered) {x : PassState} (hx : x ≠ .surrendered) :
    SealsFrom s (s.modPass p.number fun q => { q with state := x }) :=
  SealsFrom.modPass fun q hq hn => by
    obtain rfl := h.eq_of_findPass hp hq hn
    have hseal : Pass.seal { q with state := x } = q.seal := by simp [Pass.seal, hs, hx]
    exact hseal ▸ List.mem_map_of_mem hq

theorem keepsRefunds_blockPass (n : Nat) : KeepsRefunds (onPass n blockPass) := by
  refine keepsRefunds_onPass fun s p hp h => ?_
  unfold blockPass
  split_ifs with hs
  · exact .refl h
  have hblocked := SealsFrom.withState h hp hs (x := .blocked) (by decide)
  refine RefundsKept.sealed (hblocked.refundsKept h) ?_
  dsimp only
  split
  · exact SealsFrom.refl _
  · split_ifs
    · exact .of_eq (State.endHead_seals _ _ _)
    · exact .of_eq (State.endCredit_seals _ _ _ _)
    · exact SealsFrom.refl _

theorem keepsRefunds_unblockPass (n : Nat) : KeepsRefunds (onPass n unblockPass) := by
  refine keepsRefunds_onPass fun s p hp h => ?_
  unfold unblockPass
  split_ifs with hs
  · exact .refl h
  · exact (SealsFrom.withState h hp hs (by decide)).refundsKept h

theorem keepsRefunds_purgePass (n : Nat) : KeepsRefunds (onPass n purgePass) := by
  refine keepsRefunds_onPass fun s p _ h => ?_
  unfold purgePass
  split
  · exact .refl h
  · have hseals : SealsFrom s { s with passes := removePass p.number s.passes, free := s.free + p.days } :=
      List.map_subset _ (List.filter_subset_self _)
    exact hseals.refundsKept h

theorem Pass.setOverUse_seal (p : Pass) : p.setOverUse.seal = p.seal := by
  unfold Pass.setOverUse
  split <;> rfl

theorem State.markOverUse_seals (s : State) (p : Pass) (day : Nat) : (s.markOverUse p day).seals = s.seals :=
  s.modPass_seals p.number Pass.setOverUse_seal

/-- A merge writes the record found again, its list and generation changed. -/
theorem SealsFrom.merged {p : Pass} (hp : s.findPass p.number = some p) (us : List DayUse) (r : MergeResult) :
    SealsFrom s (s.merged p us r).1 :=
  have hseal : p.seal ∈ s.seals := List.mem_map_of_mem (State.findPass_eq_some hp).1
  SealsFrom.modPass fun _ _ _ => hseal

theorem SealsFrom.mergeInWindow {p : Pass} (hp : s.findPass p.number = some p) (day : Nat) (kind : DayKind) :
    SealsFrom s (mergeInWindow day kind p s).1 := by
  unfold Machine.mergeInWindow
  split
  · exact .of_eq (s.markOverUse_seals p day)
  split
  · split_ifs
    · exact .merged hp _ _
    · exact SealsFrom.refl s
    · exact SealsFrom.merged (s := s.cutLink p.number) hp _ _
  · split_ifs
    · exact .merged hp _ _
    · exact .of_eq (s.markOverUse_seals p day)

theorem keepsRefunds_mergeUse (n day kind : Nat) : KeepsRefunds (mergeUse n day kind) := by
  intro s h
  unfold mergeUse
  split
  · exact .refl h
  · refine keepsRefunds_onPass (fun s p hp h => ?_) s h
    split
    · exact (SealsFrom.mergeInWindow hp _ _).refundsKept h
    · exact .refl h

/-! ### Admission, days and lanes -/

theorem State.linkFirstUse_seals (s : State) (i : LaneNo) (p : Pass) : (s.linkFirstUse i p).seals = s.seals := by
  unfold State.linkFirstUse
  split
  · exact s.modPass_seals _ fun _ => rfl
  · rfl

theorem grant_seals (i : LaneNo) (p : Pass) (s : State) : (grant i p s).1.seals = s.seals := by
  have hlink : ((s.linkFirstUse i p).modLane i (LaneUnit.enqueue (newCredit s i p))).seals = s.seals :=
    s.linkFirstUse_seals i p
  rw [grant_fst]
  split
  · exact (State.seals_congr (State.offer_passes _ i)).trans hlink
  · exact hlink

theorem keepsRefunds_present (l : LinkNo) (pass check : Nat) :
    KeepsRefunds (onLinkLane l (present pass check)) := by
  refine keepsRefunds_onLinkLane fun i => keepsRefunds_of_seals fun s => ?_
  unfold present
  dsimp only
  split_ifs
  · exact SealsFrom.refl s
  · exact SealsFrom.refl s
  · exact SealsFrom.refl s
  split
  · exact SealsFrom.refl s
  · split
    · exact SealsFrom.refl s
    · exact .of_eq (grant_seals i _ s)

theorem keepsRefunds_openDay (day : Nat) : KeepsRefunds (openDay day) := by
  have hzero : ∀ s : State, s.zeroDay.seals = s.seals := fun s =>
    (List.map_map ..).trans (List.map_congr_left fun _ _ => rfl)
  have hopen : ∀ s : State, (s.openNow day).seals = s.seals := fun s => by
    unfold State.openNow
    refine (State.seals_congr (State.raise_passes _ _)).trans ?_
    split
    · rfl
    · exact hzero s
  refine keepsRefunds_of_seals fun s => ?_
  unfold openDay
  split_ifs
  · exact SealsFrom.refl s
  · exact SealsFrom.refl s
  · exact SealsFrom.refl s
  · exact .of_eq (hopen s)
  · exact SealsFrom.refl s

theorem keepsRefunds_closeDay : KeepsRefunds closeDay := by
  refine keepsRefunds_of_seals fun s => ?_
  unfold closeDay
  split
  · exact SealsFrom.refl s
  · exact SealsFrom.refl s
  · have hclosed : ∀ t : State, (State.closeIfDrained { t with day := .closing }).passes = t.passes := fun t =>
      State.closeIfDrained_passes { t with day := .closing }
    exact .of_eq ((State.seals_congr (hclosed _)).trans s.withdrawAll_seals)

theorem keepsRefunds_closeLane (i : LaneNo) : KeepsRefunds (closeLane i) := by
  refine keepsRefunds_of_seals fun s => ?_
  unfold closeLane closeLane.inService
  dsimp only
  split
  case h_1 | h_2 | h_3 | h_4 => exact SealsFrom.refl s
  all_goals exact .of_eq (s.closeInService_seals i)

/-! ### Requests that leave the table alone -/

theorem openLane_passes (i : LaneNo) (s : State) : (openLane i s).1.passes = s.passes := by
  unfold openLane
  dsimp only
  split
  case h_3 => simp
  all_goals rfl

theorem clearLane_passes (i : LaneNo) (s : State) : (clearLane i s).1.passes = s.passes := by
  unfold clearLane
  split <;> rfl

theorem configureLane_passes (config : LaneConfig) (i : LaneNo) (s : State) :
    (configureLane config i s).1.passes = s.passes := by
  unfold configureLane
  dsimp only
  split <;> rfl

theorem setLift_passes (n : Nat) (s : State) : (setLift n s).1.passes = s.passes := by
  unfold setLift State.startLift
  split
  · rfl
  · split
    · rfl
    · split
      · dsimp only
        split <;> simp
      · rfl

theorem setPacing_passes (mode : Nat) (settings : PacingSettings) (s : State) :
    (setPacing mode settings s).1.passes = s.passes := by
  unfold setPacing
  split
  · rfl
  · dsimp only
    split
    · exact State.freeReleaseAll_passes _
    · rfl

theorem setTariff_passes (cls : Nat) (v : Tariff) (s : State) : (setTariff cls v s).1.passes = s.passes := by
  unfold setTariff
  split
  · rfl
  · rfl
  · split <;> rfl

theorem readTariff_passes (cls : Nat) (s : State) : (readTariff cls s).1.passes = s.passes := by
  unfold readTariff
  split <;> rfl

theorem setClock_passes (time : Nat) (s : State) : (setClock time s).1.passes = s.passes := by
  unfold setClock
  split_ifs <;> rfl

theorem setMask_passes (l : LinkNo) (mask : Nat) (s : State) : (setMask l mask s).1.passes = s.passes := by
  unfold setMask
  split <;> rfl

theorem setLevels_passes (v : Levels) (s : State) : (setLevels v s).1.passes = s.passes := by
  unfold setLevels
  split <;> rfl

theorem readCounts_passes (l : LinkNo) (selector : Nat) (s : State) :
    (readCounts l selector s).1.passes = s.passes := by
  unfold readCounts
  split <;> rfl

theorem readJournal_passes (start count : Nat) (s : State) : (readJournal start count s).1.passes = s.passes := by
  unfold readJournal
  dsimp only
  split_ifs <;> rfl

/-- Every request of R178 keeps refunds. -/
theorem keepsRefunds_requestAction {c : Instr} {l : LinkNo} {code tag : Nat} {act : State → State × Answer}
    (hc : requestAction c = some (l, code, tag, act)) : KeepsRefunds act := by
  cases c <;> cases hc
  case present => exact keepsRefunds_present _ _ _
  case laneStatus => exact keepsRefunds_onLinkLane fun _ => keepsRefunds_report _
  case hello => exact keepsRefunds_report _
  case readEvents => exact keepsRefunds_of_passes fun _ => rfl
  case setMask => exact keepsRefunds_of_passes (setMask_passes _ _)
  case setLevels => exact keepsRefunds_of_passes (setLevels_passes _)
  case readCounts => exact keepsRefunds_of_passes (readCounts_passes _ _)
  case readJournal => exact keepsRefunds_of_passes (readJournal_passes _ _)
  case loadPass => exact keepsRefunds_loadPass _ _ _ _ _ _ _
  case amendPass => exact keepsRefunds_amendPass _ _ _
  case blockPass => exact keepsRefunds_blockPass _
  case unblockPass => exact keepsRefunds_unblockPass _
  case purgePass => exact keepsRefunds_purgePass _
  case readPass => exact keepsRefunds_onPass fun _ _ _ h => .refl h
  case mergeUse => exact keepsRefunds_mergeUse _ _ _
  case quoteRefund => exact keepsRefunds_quoteRefund _
  case settleRefund => exact keepsRefunds_settleRefund _ _
  case setTariff => exact keepsRefunds_of_passes (setTariff_passes _ _)
  case readTariff => exact keepsRefunds_of_passes (readTariff_passes _)
  case setClock => exact keepsRefunds_of_passes (setClock_passes _)
  case openDay => exact keepsRefunds_openDay _
  case closeDay => exact keepsRefunds_closeDay
  case readDay => exact keepsRefunds_report _
  case readStart => exact keepsRefunds_report _
  case clearAll => exact keepsRefunds_report _
  case setLift => exact keepsRefunds_of_passes (setLift_passes _)
  case setSeats => exact keepsRefunds_of_passes fun _ => rfl
  case setPacing => exact keepsRefunds_of_passes (setPacing_passes _ _)
  case readLift => exact keepsRefunds_report _
  case openLane => exact keepsRefunds_onLane fun i => keepsRefunds_of_passes (openLane_passes i)
  case closeLane => exact keepsRefunds_onLane keepsRefunds_closeLane
  case clearLane => exact keepsRefunds_onLane fun i => keepsRefunds_of_passes (clearLane_passes i)
  case configureLane => exact keepsRefunds_onLane fun i => keepsRefunds_of_passes (configureLane_passes _ i)
  case readLane => exact keepsRefunds_onLane fun _ => keepsRefunds_report _
  case unknownRequest => exact keepsRefunds_report _

end Sys2Proof.Machine

/-! ## Every command keeps refunds -/

namespace Sys2Proof.Machine

variable {s : State}

theorem refundsKept_takeFrame (h : s.TableKept) {act : State → State × Answer} (hact : KeepsRefunds act) (l : LinkNo)
    (code tag : Nat) : Gives (RefundsKept s) (takeFrame l code tag act s) := by
  have htaken : (s.taken l).TableKept := (s.tableKept_taken l).mpr h
  have hrefl := RefundsKept.refl h
  refine gives_takeFrame hrefl (fun _ => ?_) (fun _ => ?_) fun _ => ?_
  · exact hrefl.sealed (.of_passes (s.taken_passes l))
  · exact hrefl.sealed (.of_passes (by simp [State.answered]))
  · exact ((hact _ htaken).congr (s.taken_passes l) (s.taken_tariffs l)).sealed (.of_passes (State.reply_passes ..))

/-- A request, from its row or from the byte that completes its frame. -/
theorem refundsKept_runRequest (h : s.TableKept) (c : Instr) : Gives (RefundsKept s) (runRequest c s) := by
  cases hc : requestAction c with
  | none => rw [runRequest_noAction hc, gives_next]; exact .refl h
  | some x =>
    obtain ⟨l, code, tag, act⟩ := x
    rw [runRequest_requestAction hc]
    exact refundsKept_takeFrame h (keepsRefunds_requestAction hc) l code tag

theorem refundsKept_receiveByte (h : s.TableKept) (l : LinkNo) (b : Byte) :
    Gives (RefundsKept s) (receiveByte l b s) := by
  have hlink : ∀ f, RefundsKept s (s.modLink l f) := fun _ => (SealsFrom.refl s).refundsKept h
  unfold receiveByte
  split
  · rw [gives_next]
    split
    · exact hlink _
    · exact .refl h
  · dsimp only
    split_ifs
    · exact gives_next.mpr (hlink _)
    · unfold completeFrame
      split
      · exact refundsKept_runRequest h _
      · exact gives_next.mpr (hlink _)
    · exact gives_next.mpr (hlink _)

/-- The byte clocked out before one is taken changes neither records nor tariffs, or it starts the part and ends the
event (log 20). -/
theorem refundsKept_byteReceived (h : s.TableKept) (l : LinkNo) (b : Byte) :
    Gives (RefundsKept s) (execByteReceived l b s) := by
  unfold execByteReceived
  split_ifs with _ _ _ hclears
  · exact gives_next.mpr (.refl h)
  · exact refundsKept_receiveByte h l b
  · exact gives_next.mpr ((SealsFrom.clockOut s).refundsKept h)
  · have hclears : s.clearsNow = false := by simpa using hclears
    exact (refundsKept_receiveByte h.clockOut l b).imp fun _ ht =>
      ht.congr (State.clockOut_passes hclears) (State.clockOut_tariffs hclears)
  · exact gives_next.mpr (.refl h)

/-- A command that is no request. -/
theorem refundsKept_event (h : s.TableKept) {c : Instr} (hc : requestAction c = none) :
    Gives (RefundsKept s) (exec c s) := by
  have sealed : ∀ {r : Result}, Gives (SealsFrom s) r → Gives (RefundsKept s) r :=
    fun hr => hr.imp fun _ ht => ht.refundsKept h
  cases c <;> cases hc
  case frameDiscarded => exact sealed (sealsFrom_frameDiscarded _)
  case frameGapExpiry => exact sealed (sealsFrom_frameGapExpiry _)
  case byteError => exact sealed (sealsFrom_byteError _)
  case chipSelectRelease => exact sealed sealsFrom_chipSelectRelease
  case answerSendBegin => exact sealed (sealsFrom_answerSendBegin _)
  case answerSent => exact sealed (sealsFrom_answerSent _)
  case rotorLeave => exact sealed (sealsFrom_rotorLeave _)
  case mid => exact sealed (sealsFrom_mid _)
  case returnToHome => exact sealed (sealsFrom_returnToHome _)
  case beamSample => exact sealed (sealsFrom_beamSample _ _)
  case carrierEdge => exact sealed sealsFrom_carrierEdge
  case settleExpiry => exact sealed (sealsFrom_settleExpiry _ _)
  case creditLifeExpiry => exact sealed (sealsFrom_creditLifeExpiry _ _)
  case unlockStart => exact sealed (sealsFrom_unlockStart _)
  case unlockEnd => exact sealed (sealsFrom_unlockEnd _)
  case passageLimitExpiry => exact sealed (sealsFrom_passageLimitExpiry _)
  case silenceExpiry => exact sealed (sealsFrom_silenceExpiry _)
  case beamBlockedExpiry => exact sealed (sealsFrom_beamBlockedExpiry _)
  case lostWatchExpiry => exact sealed sealsFrom_lostWatchExpiry
  case powerUp => exact sealed (sealsFrom_powerUp _)
  case resetAsserted => exact sealed sealsFrom_resetAsserted
  case resetReleased => exact sealed sealsFrom_resetReleased
  case powerLoss => exact sealed sealsFrom_powerLoss
  case clearAllStart => exact sealed sealsFrom_clearAllStart
  case byteReceived => exact refundsKept_byteReceived h _ _

theorem refundsKept_exec (h : s.TableKept) (c : Instr) : Gives (RefundsKept s) (exec c s) := by
  cases hc : requestAction c with
  | none => exact refundsKept_event h hc
  | some x =>
    obtain ⟨l, code, tag, act⟩ := x
    rw [exec_requestAction hc]
    exact refundsKept_takeFrame h (keepsRefunds_requestAction hc) l code tag

end Sys2Proof.Machine

namespace Sys2Proof.Machine

/-- Settles O28: the stages bound a quote one after the other, and SETTLE REFUND alone puts a refund in the table, that
of its own quote. -/
theorem refundIsBoundedAndFinal : Obligations.RefundIsBoundedAndFinal := by
  refine ⟨fun p t _ hf => ?_, fun c s t p q hpool hrecords ht hp hq hn => ?_⟩
  · have hoverUse : p.overUse = true → (quoteOf p t).refund = 0 := fun ho => by rw [quoteOf_refund, if_pos ho]
    exact ⟨quantum_dvd_refund p t, quoteOf_refund_le p hf, hoverUse, proRata_le _ _ _ _, afterFraction_le_min hf,
      afterFee_le _ _, refund_le_afterFee p t⟩
  · have hkept : s.TableKept := s.tableKept_iff.mpr ⟨hpool, hrecords⟩
    obtain ⟨hstored, hnow⟩ := refundsKept_exec hkept c t ht p hp q hq hn
    exact ⟨hstored, hnow⟩

end Sys2Proof.Machine

/-! ## The Journal run (R157 to R159, R161) -/

namespace Sys2Proof.Machine

/-- Settles O17: the definition, with the stamp written out. -/
theorem appendTakesTheNextSequence : Obligations.AppendTakesTheNextSequence := fun _ _ => rfl

/-! ### The numbers of the records held -/

/-- `JournalLaw` of a ring and a next sequence number, where the ring may be the empty one a COLD start begins with:
each place has its number. -/
structure JournalRun (ring : List JournalRecord) (next : Nat) : Prop where
  fits : ring.length ≤ Config.ringSize
  nextFits : next < Config.seqTop
  seq : ∀ (k : Nat) (h : k < ring.length), ring[k].seq = (next + Config.seqTop - ring.length + k) % Config.seqTop

theorem journalLaw_iff (s : State) : JournalLaw s ↔ s.journal ≠ [] ∧ JournalRun s.journal s.nextSeq := by
  have hseqs : (s.journal.map JournalRecord.seq = (List.range s.journal.length).map fun k =>
      (s.nextSeq + Config.seqTop - s.journal.length + k) % Config.seqTop) ↔
      ∀ (k : Nat) (h : k < s.journal.length),
        s.journal[k].seq = (s.nextSeq + Config.seqTop - s.journal.length + k) % Config.seqTop := by
    simp [List.ext_getElem_iff]
  exact ⟨fun ⟨held, fits, next, seqs⟩ => ⟨held, fits, next, hseqs.mp seqs⟩,
    fun ⟨held, fits, next, seq⟩ => ⟨held, fits, next, hseqs.mpr seq⟩⟩

section Run
variable {ring : List JournalRecord} {next : Nat}

/-- The oldest record may go (R158). -/
theorem JournalRun.tail (h : JournalRun ring next) : JournalRun ring.tail next := by
  have hfits := h.fits
  have hlen := ring.length_tail
  refine ⟨by omega, h.nextFits, fun k hk => ?_⟩
  have hseq := h.seq (k + 1) (by omega)
  simp only [Config.ringSize] at hfits
  rw [List.getElem_tail, hseq, hlen]
  congr 1
  simp only [Config.seqTop]
  omega

/-- A record under the next sequence number goes on with the run. -/
theorem JournalRun.snoc (h : JournalRun ring next) (hroom : ring.length < Config.ringSize) {r : JournalRecord}
    (hr : r.seq = next) : JournalRun (ring ++ [r]) ((next + 1) % Config.seqTop) := by
  have hnext := h.nextFits
  refine ⟨by simpa using hroom, Nat.mod_lt _ (by decide), fun k hk => ?_⟩
  have hk' : k < ring.length + 1 := by simpa using hk
  simp only [Config.seqTop, Config.ringSize] at hnext hroom
  rw [List.length_append, List.length_singleton]
  rcases Nat.lt_succ_iff_lt_or_eq.mp hk' with hold | rfl
  · rw [List.getElem_append_left hold, h.seq k hold]
    simp only [Config.seqTop]
    omega
  · rw [List.getElem_append_right (Nat.le_refl _)]
    simp only [Nat.sub_self, List.getElem_singleton, hr, Config.seqTop]
    omega

theorem JournalRun.push (h : JournalRun ring next) {r : JournalRecord} (hr : r.seq = next) :
    JournalRun (ringPush ring r) ((next + 1) % Config.seqTop) := by
  unfold ringPush
  split
  · exact h.snoc ‹_› hr
  · refine h.tail.snoc ?_ hr
    have hfits := h.fits
    have hsize : Config.ringSize = 1024 := rfl
    rw [List.length_tail]
    omega

end Run

/-- An append leaves a run that is not empty (R158). -/
theorem JournalRun.append {s : State} (h : JournalRun s.journal s.nextSeq) (b : JournalBody) :
    JournalLaw (s.append b) :=
  (journalLaw_iff _).mpr ⟨by simp [ringPush], h.push rfl⟩

theorem JournalLaw.append {s : State} (h : JournalLaw s) (b : JournalBody) : JournalLaw (s.append b) :=
  ((journalLaw_iff s).mp h).2.append b

/-! ### READ JOURNAL (R161) -/

@[simp] theorem State.taken_journal (s : State) (l : LinkNo) : (s.taken l).journal = s.journal := by
  rw [State.taken_eq]
@[simp] theorem State.taken_nextSeq (s : State) (l : LinkNo) : (s.taken l).nextSeq = s.nextSeq := by
  rw [State.taken_eq]

/-- A start lies at a distance from the oldest record exactly if it is the number of that place, the place of the next
record included. -/
theorem distance_eq_iff {next held start d : Nat} (hnext : next < Config.seqTop) (hheld : held ≤ Config.ringSize)
    (hstart : start < Config.seqTop) (hd : d ≤ held) :
    (start + Config.seqTop - (next + Config.seqTop - held) % Config.seqTop) % Config.seqTop = d ↔
      start = (next + Config.seqTop - held + d) % Config.seqTop := by
  simp only [Config.seqTop, Config.ringSize] at *
  omega

section ReadJournal
variable {s : State} {oldest : JournalRecord} {start count : Nat}

theorem State.oldestSeq_of_head (ho : s.journal.head? = some oldest) : s.oldestSeq = oldest.seq := by
  rw [State.oldestSeq, ho]
  rfl

/-- R161 by the start's distance from the oldest record. -/
theorem readJournal_eq (ho : s.journal.head? = some oldest) (hcount : count ≤ 16) :
    readJournal start count s =
      (let d := (start + Config.seqTop - oldest.seq) % Config.seqTop
      (s, if d < s.journal.length then .journal oldest.seq s.nextSeq false ((s.journal.drop d).take count)
        else if d = s.journal.length then .journal oldest.seq s.nextSeq false []
        else .journal oldest.seq s.nextSeq true (s.journal.take count))) := by
  rw [readJournal, if_neg (Nat.not_lt_of_le hcount), State.oldestSeq_of_head ho]
  dsimp only
  split_ifs <;> rfl

variable (h : JournalLaw s) (ho : s.journal.head? = some oldest) (hstart : start < Config.seqTop)
include h ho

theorem JournalLaw.oldest_seq :
    oldest.seq = (s.nextSeq + Config.seqTop - s.journal.length) % Config.seqTop := by
  obtain ⟨hheld, hrun⟩ := (journalLaw_iff s).mp h
  have hpos : 0 < s.journal.length := List.length_pos_iff.mpr hheld
  have hfirst := hrun.seq 0 hpos
  rw [List.head?_eq_getElem?, List.getElem?_eq_getElem hpos] at ho
  rwa [Option.some.inj ho] at hfirst

include hstart

theorem JournalLaw.distance_eq_iff {d : Nat} (hd : d ≤ s.journal.length) :
    (start + Config.seqTop - oldest.seq) % Config.seqTop = d ↔
      start = (s.nextSeq + Config.seqTop - s.journal.length + d) % Config.seqTop := by
  rw [h.oldest_seq ho]
  exact Machine.distance_eq_iff h.next h.fits hstart hd

/-- The place of a held record. -/
theorem JournalLaw.distance_held {k : Nat} {r : JournalRecord} (hr : s.journal[k]? = some r) :
    (start + Config.seqTop - oldest.seq) % Config.seqTop = k ↔ r.seq = start := by
  obtain ⟨hk, rfl⟩ := List.getElem?_eq_some_iff.mp hr
  rw [h.distance_eq_iff ho hstart (Nat.le_of_lt hk), ((journalLaw_iff s).mp h).2.seq k hk]
  exact eq_comm

/-- The place after the newest record is that of the next sequence number. -/
theorem JournalLaw.distance_next :
    (start + Config.seqTop - oldest.seq) % Config.seqTop = s.journal.length ↔ start = s.nextSeq := by
  have hnext := h.next
  have hfits := h.fits
  rw [h.distance_eq_iff ho hstart (Nat.le_refl _)]
  simp only [Config.seqTop, Config.ringSize] at *
  omega

end ReadJournal

/-- Settles O36: the distance of the start from the oldest record, modulo 2^32, is a held record's place, that of the
next one, or none of both. -/
theorem readJournalPlacesTheStart : Obligations.ReadJournalPlacesTheStart := by
  intro l tag start count s hl ht hstart hlaw
  have hrole : roleMay 8 (roleOf l) = true := by
    rcases office_or_console hl with rfl | rfl <;> rfl
  have hrun : exec (.readJournal l tag start count) s = .next ((readJournal start count (s.taken l)).1.reply l 8 tag
      (readJournal start count (s.taken l)).2) := exec_taken rfl ht rfl hrole
  refine ⟨fun hcount => ?_, fun hcount oldest ho => ?_⟩
  · rw [hrun, readJournal, if_pos hcount]
    rfl
  · rw [hrun, readJournal_eq (s := s.taken l) (oldest := oldest) (by simpa using ho) hcount]
    simp only [State.taken_journal, State.taken_nextSeq]
    refine ⟨fun k r hr hseq => ?_, fun hnext => ?_, fun hnext habsent => ?_⟩
    · rw [(hlaw.distance_held ho hstart hr).mpr hseq, if_pos (List.getElem?_eq_some_iff.mp hr).1]
      rfl
    · rw [(hlaw.distance_next ho hstart).mpr hnext, if_neg (Nat.lt_irrefl _), if_pos rfl, ← hnext]
      rfl
    · have hnot : ¬ (start + Config.seqTop - oldest.seq) % Config.seqTop < s.journal.length := fun hd => by
        have hr := List.getElem?_eq_getElem hd
        exact habsent _ (List.mem_of_getElem? hr) ((hlaw.distance_held ho hstart hr).mp rfl)
      rw [if_neg hnot, if_neg (mt (hlaw.distance_next ho hstart).mp hnext)]
      rfl

end Sys2Proof.Machine

/-! ## Event Status (R162 to R167) -/

namespace Sys2Proof.Machine

/-! ### Raised pairs (R162, R164, R166) -/

theorem inScope_atLane {k : LaneEvent} {i : LaneNo} {l : LinkNo} :
    inScope (.atLane k i) l = true ↔ l = linkOfLane i ∨ l = officeLink ∨ l = consoleLink := by
  simp [inScope, or_assoc]

/-- Settles O18: a raise is an ordered insertion and a decision on each endpoint within scope. -/
theorem raisedPairEntersTheLinksInScope : Obligations.RaisedPairEntersTheLinksInScope := by
  refine ⟨fun _ _ _ => inScope_atLane, inScope_lift, fun _ _ => ⟨rfl, rfl⟩, rfl,
    fun s p => ⟨fun l hl => ?_, fun l hl => ?_, ?_⟩⟩
  · rw [State.raise_link, if_neg (by simp [hl])]
  · rw [State.raise_link, if_pos hl]
    exact ⟨fun q => mem_insertPair p q _, pairwise_insertPair p _, rfl, rfl⟩
  · rw [State.raise_eq]

/-! ### READ EVENTS, SET MASK and SET LEVELS (R163, R165, R167) -/

@[simp] theorem State.taken_levels (s : State) (l : LinkNo) : (s.taken l).levels = s.levels := by
  rw [State.taken_eq]

theorem levelBad_eq_some {v : Levels} {k n : Nat} (hk : (Levels.toList v)[k]? = some n) (hn : 7 < n)
    (hbelow : ∀ j m, j < k → (Levels.toList v)[j]? = some m → m ≤ 7) : levelBad v = some k := by
  obtain ⟨hlt, rfl⟩ := List.getElem?_eq_some_iff.mp hk
  refine List.findIdx?_eq_some_iff_getElem.mpr ⟨hlt, decide_eq_true hn, fun j hj => ?_⟩
  have hle := hbelow j _ hj (List.getElem?_eq_getElem (hj.trans hlt))
  simpa using hle

theorem levelBad_eq_none {v : Levels} : levelBad v = none ↔ ∀ n ∈ Levels.toList v, n ≤ 7 := by
  simp [levelBad, List.findIdx?_eq_none_iff]

/-- Settles O37: each request's effect on the state its frame leaves, whose endpoint differs in the receiver alone. -/
theorem eventStatusRequests : Obligations.EventStatusRequests := by
  intro l tag s ht
  refine ⟨?_, fun m hm => ?_, fun m hm => ?_, fun v hl => ?_⟩
  · rw [exec_taken (c := .readEvents l tag) rfl ht rfl rfl]
    simp only [readEvents, State.taken_link, if_true, State.taken_levels]
    rfl
  · rw [exec_taken (c := .setMask l tag m) rfl ht rfl rfl, setMask, if_pos hm]
    rfl
  · rw [exec_taken (c := .setMask l tag m) rfl ht rfl rfl, setMask, if_neg (Nat.not_lt_of_le hm)]
    simp [Endpoint.decide, lineActive, State.modLink]
  · have hrole : roleMay 6 (roleOf l) = true := by
      rcases office_or_console hl with rfl | rfl <;> rfl
    rw [exec_taken (c := .setLevels l tag v) rfl ht rfl hrole, setLevels]
    refine ⟨fun k n hk hn hbelow => ?_, fun hall => ?_⟩
    · rw [levelBad_eq_some hk hn hbelow]
      rfl
    · rw [levelBad_eq_none.mpr hall]
      rfl

end Sys2Proof.Machine

/-! ## What events enter into the Journal and the pending sets

`Logs s t` says that `t` may come from `s` by an event's records and raised pairs: the part runs on, the Journal's run
and the decided lines stay, and no link's answers, slot or driver move. -/

namespace Sys2Proof.Machine

/-! ### What the laws read of an endpoint -/

/-- Event Status of a link: pending set, mask and line. -/
def Endpoint.status (e : Endpoint) : List EventPair × Nat × Bool := (e.pairs, e.mask, e.attention)

/-- The answers of a link: slot, output queue and driver. -/
def Endpoint.traffic (e : Endpoint) : Option (Nat × Nat) × List OutAnswer × Bool := (e.slot, e.output, e.driver)

/-- `AttentionLaw` of one endpoint of a part that runs. -/
structure Endpoint.Decided (v : Levels) (l : LinkNo) (e : Endpoint) : Prop where
  sets : e.pairs.Pairwise fun p q => p.rank < q.rank
  scope : ∀ p ∈ e.pairs, inScope p l = true
  line : e.attention = lineActive v e.mask e.pairs

section Endpoints
variable {v : Levels} {l : LinkNo} {e f : Endpoint}

theorem Endpoint.Decided.congr (h : e.Decided v l) (hs : f.status = e.status) : f.Decided v l := by
  simp only [Endpoint.status, Prod.mk.injEq] at hs
  obtain ⟨hpairs, hmask, hline⟩ := hs
  exact ⟨hpairs ▸ h.sets, hpairs ▸ h.scope, by rw [hline, hmask, hpairs]; exact h.line⟩

/-- A line decided afresh over the same set, whatever levels and mask (R163, R165). -/
theorem Endpoint.Decided.redecide (h : e.Decided v l) {w : Levels} (hp : f.pairs = e.pairs) :
    (f.decide w).Decided w l :=
  ⟨hp ▸ h.sets, hp ▸ h.scope, rfl⟩

/-- A pair within scope is raised (R164, R166). -/
theorem Endpoint.Decided.raise (h : e.Decided v l) {p : EventPair} (hp : inScope p l = true) :
    (e.raise v p).Decided v l where
  sets := pairwise_insertPair p _ h.sets
  scope := fun q hq => by
    rcases (mem_insertPair p q _).mp hq with rfl | hq
    · exact hp
    · exact h.scope q hq
  line := rfl

/-- A set handed over is empty (R167). -/
theorem Endpoint.decided_emptied (v : Levels) (l : LinkNo) (e : Endpoint) :
    ({ e with pairs := [] }.decide v).Decided v l :=
  ⟨.nil, fun _ hp => (nomatch hp), rfl⟩

theorem Endpoint.decided_atStart (v : Levels) (l : LinkNo) : Endpoint.atStart.Decided v l :=
  ⟨.nil, fun _ hp => (nomatch hp), rfl⟩

end Endpoints

/-! ### What the laws read of a state -/

/-- Run state, levels, Journal and next sequence number. -/
def State.log (s : State) : RunState × Levels × List JournalRecord × Nat := (s.run, s.levels, s.journal, s.nextSeq)

/-- `AttentionLaw` of a part that runs. -/
def State.Decided (s : State) : Prop := ∀ l, (s.link l).Decided s.levels l

theorem attentionLaw_iff_decided {s : State} (h : s.run = .running) : AttentionLaw s ↔ s.Decided :=
  ⟨fun ⟨sets, scope, line, _⟩ l => ⟨sets l, scope l, line l h⟩,
    fun hd => ⟨fun l => (hd l).sets, fun l => (hd l).scope, fun l _ => (hd l).line, fun _ hr => absurd h hr⟩⟩

/-- What an event's records and pairs keep. -/
structure Logs (s t : State) : Prop where
  run : t.run = s.run
  journal : JournalLaw s → JournalLaw t
  decided : s.Decided → t.Decided
  traffic : ∀ l, (t.link l).traffic = (s.link l).traffic

theorem Logs.refl (s : State) : Logs s s := ⟨rfl, id, id, fun _ => rfl⟩

theorem Logs.trans {s t r : State} (h : Logs s t) (k : Logs t r) : Logs s r :=
  ⟨k.run.trans h.run, k.journal ∘ h.journal, k.decided ∘ h.decided, fun l => (k.traffic l).trans (h.traffic l)⟩

theorem JournalLaw.congr {s t : State} (h : JournalLaw s) (hj : t.journal = s.journal) (hn : t.nextSeq = s.nextSeq) :
    JournalLaw t := by
  rw [journalLaw_iff] at *
  rwa [hj, hn]

section Operations
variable {s t r : State}

/-- A change outside log and links. -/
theorem Logs.quiet (h : Logs s t) (hlog : r.log = t.log) (hlinks : r.links = t.links) : Logs s r := by
  simp only [State.log, Prod.mk.injEq] at hlog
  obtain ⟨hrun, hlevels, hj, hn⟩ := hlog
  have hlink : ∀ l, r.link l = t.link l := fun l => by rw [State.link, hlinks, State.link]
  exact h.trans ⟨hrun, fun hlaw => hlaw.congr hj hn, fun hd l => by rw [hlink, hlevels]; exact hd l,
    fun l => by rw [hlink]⟩

theorem Logs.modLane (h : Logs s t) (i : LaneNo) (f : LaneUnit → LaneUnit) : Logs s (t.modLane i f) := h.quiet rfl rfl
theorem Logs.modPass (h : Logs s t) (n : Nat) (f : Pass → Pass) : Logs s (t.modPass n f) := h.quiet rfl rfl
theorem Logs.waitUntil (h : Logs s t) (n : Nat) : Logs s (t.waitUntil n) := h.quiet rfl rfl
theorem Logs.withPacer (h : Logs s t) (p : Pacer) : Logs s { t with pacer := p } := h.quiet rfl rfl
theorem Logs.withDay (h : Logs s t) (d : DayState) (n : Nat) : Logs s { t with day := d, lastOpened := n } :=
  h.quiet rfl rfl
theorem Logs.withTable (h : Logs s t) (ps : List Pass) (free : Nat) : Logs s { t with passes := ps, free := free } :=
  h.quiet rfl rfl

/-- R158. -/
theorem Logs.append (h : Logs s t) (b : JournalBody) : Logs s (t.append b) :=
  h.trans ⟨rfl, fun hlaw => hlaw.append b, id, fun _ => rfl⟩

/-- R164, R166. -/
theorem Logs.raise (h : Logs s t) (p : EventPair) : Logs s (t.raise p) := by
  refine h.trans ⟨t.raise_run p, fun hlaw => hlaw.congr (t.raise_journal p) (t.raise_nextSeq p), fun hd l => ?_,
    fun l => ?_⟩
  · rw [State.raise_link, State.raise_levels]
    split
    · exact (hd l).raise ‹_›
    · exact hd l
  · rw [State.raise_link]
    split <;> rfl

theorem Logs.raiseAt (h : Logs s t) (k : LaneEvent) (i : LaneNo) : Logs s (t.raiseAt k i) := h.raise _

/-- A record with its pair. -/
theorem Logs.note (h : Logs s t) (b : JournalBody) (k : LaneEvent) (i : LaneNo) : Logs s ((t.append b).raiseAt k i) :=
  (h.append b).raiseAt k i

/-- A change of one endpoint beside its answers, with its line decided. -/
theorem Logs.modLink (h : Logs s t) {l : LinkNo} {f : Endpoint → Endpoint}
    (hd : (t.link l).Decided t.levels l → (f (t.link l)).Decided t.levels l)
    (ht : (f (t.link l)).traffic = (t.link l).traffic) : Logs s (t.modLink l f) := by
  refine h.trans ⟨rfl, (·.congr rfl rfl), fun hall k => ?_, fun k => ?_⟩
  · rw [State.modLink_link, State.modLink_levels]
    split
    · subst_vars; exact hd (hall _)
    · exact hall k
  · rw [State.modLink_link]
    split
    · subst_vars; exact ht
    · rfl

theorem Logs.idleReceiver (h : Logs s t) (l : LinkNo) : Logs s (t.idleReceiver l) := h.modLink (·.congr rfl) rfl

theorem Logs.taken (h : Logs s t) (l : LinkNo) : Logs s (t.taken l) := by
  unfold State.taken State.reviveLink
  split
  · exact (h.idleReceiver l).modLane _ _
  · exact h.idleReceiver l

/-! ### Releases, the end of a credit, withdrawals and faults -/

theorem Logs.tryUnlock (h : Logs s t) (i : LaneNo) : Logs s (t.tryUnlock i) := by
  rw [State.tryUnlock_eq]
  exact h.quiet rfl rfl

theorem Logs.freeRelease (h : Logs s t) (i : LaneNo) : Logs s (t.freeRelease i) := by
  obtain ⟨u, e⟩ := t.freeRelease_eq i
  rw [e]
  exact h.quiet rfl rfl

theorem Logs.freeReleaseAll (h : Logs s t) : Logs s t.freeReleaseAll := by
  rw [State.freeReleaseAll_eq]
  exact h.quiet rfl rfl

theorem Logs.arbitrate (h : Logs s t) : Logs s t.arbitrate := by
  rw [State.arbitrate_eq]
  exact h.quiet rfl rfl

theorem Logs.offer (h : Logs s t) (i : LaneNo) : Logs s (t.offer i) := by
  rw [State.offer_eq]
  exact h.quiet rfl rfl

theorem Logs.homeRelease (h : Logs s t) (i : LaneNo) : Logs s (t.homeRelease i) := by
  have hunlock := h.tryUnlock i
  unfold State.homeRelease
  dsimp only
  split
  · exact hunlock.freeRelease i
  · exact hunlock

theorem Logs.closeIfDrained (h : Logs s t) : Logs s t.closeIfDrained := by
  unfold State.closeIfDrained
  split
  · exact ((h.withDay .closed t.lastOpened).append _).raise _
  · exact h

theorem Logs.settleLink (h : Logs s t) (c : Credit) (o : CreditOutcome) : Logs s (t.settleLink c o) := by
  unfold State.settleLink
  split
  · exact h.modPass _ _
  · exact h

theorem Logs.writePassage (h : Logs s t) (i : LaneNo) (c : Credit) : Logs s (t.writePassage i c) := h.modPass _ _

theorem Logs.endCredit (h : Logs s t) (i : LaneNo) (place : Nat) (o : CreditOutcome) :
    Logs s (t.endCredit i place o) := by
  unfold State.endCredit
  split
  · exact h
  · rename_i c _
    have hgone := (h.modLane i fun u => u.dequeue place c).settleLink c o
    dsimp only
    refine Logs.closeIfDrained (Logs.modLane (Logs.raiseAt ?_ _ _) _ _)
    split
    · exact (((((hgone.writePassage i c).modLane i _).append _).append _).raiseAt _ i)
    · exact (hgone.modLane i _).append _

theorem Logs.endHead (h : Logs s t) (i : LaneNo) (o : CreditOutcome) : Logs s (t.endHead i o) :=
  (h.endCredit i 0 o).offer i

theorem Logs.withdraw (h : Logs s t) (i : LaneNo) (cause : Cause) (which : Credit → Bool) :
    Logs s (t.withdraw i cause which) := by
  have key : ∀ (q : List Credit) (place : Nat) (r : State),
      Logs s r → Logs s (withdrawFrom i cause which q place r) := by
    intro q
    induction q with
    | nil => exact fun _ _ hr => hr
    | cons c cs ih =>
      intro place r hr
      unfold withdrawFrom
      split
      · exact ih _ _ (hr.endCredit i place _)
      · exact ih _ _ hr
  exact key _ 0 t h

theorem Logs.withdrawAll (h : Logs s t) : Logs s t.withdrawAll := by
  have key : ∀ (is : List LaneNo) (r : State), Logs s r →
      Logs s (is.foldl (fun r i => r.withdraw i .dayClosing Credit.notUnlocked) r) := by
    intro is
    induction is with
    | nil => exact fun _ hr => hr
    | cons i is ih => exact fun r hr => ih _ (hr.withdraw i _ _)
  exact key _ t h

theorem Logs.closeInService (h : Logs s t) (i : LaneNo) : Logs s (t.closeInService i) := by
  unfold State.closeInService
  exact (h.withdraw i _ _).modLane i _

theorem Logs.enterFault (h : Logs s t) (i : LaneNo) (cause : FaultCause) : Logs s (t.enterFault i cause) :=
  (((h.modLane i _).withdraw i _ _).modLane i _).note _ _ i

theorem Logs.laterCause (h : Logs s t) (i : LaneNo) (cause : FaultCause) : Logs s (t.laterCause i cause) := by
  unfold State.laterCause
  split
  · exact h
  · exact (h.modLane i _).note _ _ i

theorem Logs.detect (h : Logs s t) (i : LaneNo) (cause : FaultCause) : Logs s (t.detect i cause) := by
  unfold State.detect
  split
  · exact h.laterCause i cause
  · exact h.enterFault i cause

/-! ### The return of the rotor and accepted edges (R109, R129) -/

theorem Logs.countUntagged (h : Logs s t) (i : LaneNo) (cause : UntaggedCause) : Logs s (t.countUntagged i cause) :=
  (h.modLane i _).note _ _ i

theorem Logs.countBackout (h : Logs s t) (i : LaneNo) (x : Rotation) : Logs s (t.countBackout i x) :=
  (h.modLane i _).note _ _ i

theorem Logs.countRotation (h : Logs s t) (i : LaneNo) (left : Tracker) (x : Rotation) :
    Logs s (t.countRotation i left x) := by
  unfold State.countRotation
  dsimp only
  split_ifs
  · exact h.countBackout i x
  · exact h.countUntagged i _
  · exact (h.countUntagged i _).countUntagged i _
  · exact h
  · exact h.countUntagged i _

theorem Logs.backoutCredit (h : Logs s t) (i : LaneNo) (x : Rotation) : Logs s (t.backoutCredit i x) := by
  unfold State.backoutCredit
  split_ifs
  · exact h.endHead i _
  · exact h.endHead i _
  · exact h.endHead i _
  · exact h.modLane i _

theorem Logs.returnHome (h : Logs s t) (i : LaneNo) (x : Rotation) : Logs s (t.returnHome i x) := by
  have hcount := (h.modLane i LaneUnit.atHome).countRotation i (t.lane i).tracker x
  unfold State.returnHome
  refine Logs.modLane (Logs.homeRelease (Logs.modLane ?_ i _) i) i _
  split
  · exact hcount.backoutCredit i x
  · exact hcount

theorem Logs.regain (h : Logs s t) : Logs s t.regain := by
  unfold State.regain
  split
  · exact ((h.withPacer _).append _).raise _
  · exact h

theorem Logs.acceptEdge (h : Logs s t) (k : EdgeClass) : Logs s (t.acceptEdge k) :=
  (h.regain.withPacer _).arbitrate

end Operations

end Sys2Proof.Machine

/-! ## What requests enter, and that their answers hold a slot -/

namespace Sys2Proof.Machine

/-- BUSY, the one answer that holds no request slot (R174). -/
def Answer.isBusy : Answer → Bool
  | .busy _ _ => true
  | _ => false

theorem OutAnswer.isBusy_eq (a : OutAnswer) : a.isBusy = a.answer.isBusy := by
  unfold OutAnswer.isBusy Answer.isBusy
  split <;> simp_all

/-- A request's effect on log and links, and an answer other than BUSY. -/
structure LogsAnswer (s : State) (x : State × Answer) : Prop where
  logs : Logs s x.1
  answer : x.2.isBusy = false

/-- A request's action, on any state. -/
def LogsAct (act : State → State × Answer) : Prop := ∀ s, LogsAnswer s (act s)

theorem Logs.answer {s t : State} (h : Logs s t) {a : Answer} (ha : a.isBusy = false) :
    LogsAnswer s (t, a) := ⟨h, ha⟩

theorem LogsAnswer.same {s : State} {a : Answer} (ha : a.isBusy = false) : LogsAnswer s (s, a) :=
  (Logs.refl s).answer ha

theorem logsAct_report {f : State → Answer} (hf : ∀ s, (f s).isBusy = false) : LogsAct (report f) :=
  fun s => .same (hf s)

theorem logsAct_onLinkLane {l : LinkNo} {act : LaneNo → State → State × Answer} (h : ∀ i, LogsAct (act i)) :
    LogsAct (onLinkLane l act) := by
  intro s
  unfold onLinkLane
  split
  · exact h _ s
  · exact .same rfl

theorem logsAct_onLane {lane : Nat} {act : LaneNo → State → State × Answer} (h : ∀ i, LogsAct (act i)) :
    LogsAct (onLane lane act) := by
  intro s
  unfold onLane
  split
  · exact h _ s
  · exact .same rfl

theorem logsAct_onPass {n : Nat} {act : Pass → State → State × Answer} (h : ∀ p, LogsAct (act p)) :
    LogsAct (onPass n act) := by
  intro s
  unfold onPass
  split
  · exact .same rfl
  · split
    · exact .same rfl
    · exact h _ s

/-! ### Requests on passes (R11 to R35, R141, R148) -/

theorem logsAct_loadPass (n check cls days paid first last : Nat) :
    LogsAct (loadPass n check cls days paid first last) := by
  intro s
  unfold loadPass
  split_ifs
  · exact .same rfl
  · exact .same rfl
  · exact .same rfl
  · exact ((Logs.refl s).withTable _ _).answer rfl
  · exact .same rfl

theorem logsAct_amendPass (n presence : Nat) (a : Amendment) : LogsAct (amendPass n presence a) := by
  intro s
  unfold amendPass
  split
  · exact .same rfl
  · split
    · exact .same rfl
    · split_ifs
      · exact .same rfl
      · exact .same rfl
      · exact .same rfl
      · exact .same rfl
      · exact ((Logs.refl s).withTable _ _).answer rfl

theorem logsAct_blockPass (p : Pass) : LogsAct (blockPass p) := by
  intro s
  have hblocked := (Logs.refl s).modPass p.number fun q => { q with state := .blocked }
  unfold blockPass
  dsimp only
  split
  · exact .same rfl
  · split
    · exact hblocked.answer rfl
    · split_ifs
      · exact (hblocked.endHead _ _).answer rfl
      · exact (hblocked.endCredit _ _ _).answer rfl
      · exact hblocked.answer rfl

theorem logsAct_unblockPass (p : Pass) : LogsAct (unblockPass p) := by
  intro s
  unfold unblockPass
  split
  · exact .same rfl
  · exact ((Logs.refl s).modPass _ _).answer rfl

theorem logsAct_purgePass (p : Pass) : LogsAct (purgePass p) := by
  intro s
  unfold purgePass
  split
  · exact .same rfl
  · exact ((Logs.refl s).withTable _ _).answer rfl

theorem Logs.markOverUse {s t : State} (h : Logs s t) (p : Pass) (day : Nat) : Logs s (t.markOverUse p day) :=
  (h.modPass p.number Pass.setOverUse).append _

theorem Logs.cutLink {s t : State} (h : Logs s t) (n : Nat) : Logs s (t.cutLink n) := h.quiet rfl rfl

theorem logsAct_mergeInWindow (day : Nat) (kind : DayKind) (p : Pass) : LogsAct (mergeInWindow day kind p) := by
  intro s
  have hmarked := (Logs.refl s).markOverUse p day
  unfold mergeInWindow
  split
  · exact hmarked.answer rfl
  split
  · split_ifs
    · exact ((Logs.refl s).modPass _ _).answer rfl
    · exact .same rfl
    · exact (((Logs.refl s).cutLink p.number).modPass _ _).answer rfl
  · split_ifs
    · exact ((Logs.refl s).modPass _ _).answer rfl
    · exact hmarked.answer rfl

theorem logsAct_mergeUse (n day kind : Nat) : LogsAct (mergeUse n day kind) := by
  intro s
  unfold mergeUse
  split
  · exact .same rfl
  · refine logsAct_onPass (fun p s => ?_) s
    split
    · exact logsAct_mergeInWindow _ _ p s
    · exact .same rfl

theorem settleRefused_notBusy {s : State} {p : Pass} {a : Answer} (h : settleRefused s p = some a) :
    a.isBusy = false := by
  unfold settleRefused at h
  split at h
  · obtain rfl := Option.some.inj h
    rfl
  · obtain ⟨_, -, rfl⟩ := Option.map_eq_some_iff.mp h
    rfl

theorem logsAct_quoteRefund (p : Pass) : LogsAct (quoteRefund p) := by
  intro s
  unfold quoteRefund
  split
  · exact .same (settleRefused_notBusy ‹_›)
  · exact .same rfl

theorem logsAct_settleRefund (generation : Nat) (p : Pass) : LogsAct (settleRefund generation p) := by
  intro s
  unfold settleRefund
  split
  · exact .same (settleRefused_notBusy ‹_›)
  · split_ifs
    · exact .same rfl
    · exact .same rfl
    · exact (((Logs.refl s).modPass _ _).append _).answer rfl

/-! ### PRESENT (R55, R66 to R69) -/

theorem logsAct_deny (i : LaneNo) (reason : DenyReason) (detail : Nat) : LogsAct (deny i reason detail) := fun s =>
  ((Logs.refl s).modLane i _).answer rfl

theorem logsAct_grant (i : LaneNo) (p : Pass) : LogsAct (grant i p) := by
  intro s
  have hlink : Logs s (s.linkFirstUse i p) := by
    rw [State.linkFirstUse_eq]
    exact (Logs.refl s).withTable _ _
  have hqueued := hlink.modLane i (LaneUnit.enqueue (newCredit s i p))
  refine ⟨?_, rfl⟩
  rw [grant_fst]
  split
  · exact hqueued.offer i
  · exact hqueued

theorem logsAct_present (pass check : Nat) (i : LaneNo) : LogsAct (present pass check i) := by
  intro s
  unfold present
  dsimp only
  split_ifs
  · exact .same rfl
  · exact logsAct_deny _ _ _ s
  · exact .same rfl
  split
  · exact logsAct_deny _ _ _ s
  · split
    · exact logsAct_deny _ _ _ s
    · exact logsAct_grant i _ s

/-! ### The office's requests (R38 to R48) -/

theorem logsAct_setTariff (cls : Nat) (x : Tariff) : LogsAct (setTariff cls x) := by
  intro s
  unfold setTariff
  split
  · exact .same rfl
  · exact .same rfl
  · split
    · exact .same rfl
    · exact ⟨(Logs.refl s).quiet rfl rfl, rfl⟩

theorem logsAct_readTariff (cls : Nat) : LogsAct (readTariff cls) := by
  intro s
  unfold readTariff
  split <;> exact .same rfl

theorem logsAct_setClock (time : Nat) : LogsAct (setClock time) := by
  intro s
  unfold setClock
  split_ifs
  · exact .same rfl
  · exact .same rfl
  · exact ⟨(Logs.refl s).quiet rfl rfl, rfl⟩

theorem Logs.openNow {s t : State} (h : Logs s t) (n : Nat) : Logs s (t.openNow n) := by
  unfold State.openNow
  refine Logs.raise (Logs.append (Logs.withDay ?_ _ _) _) _
  split
  · exact h
  · exact h.quiet rfl rfl

theorem logsAct_openDay (n : Nat) : LogsAct (openDay n) := by
  intro s
  unfold openDay
  split_ifs
  · exact .same rfl
  · exact .same rfl
  · exact .same rfl
  · exact ((Logs.refl s).openNow n).answer rfl
  · exact .same rfl

theorem logsAct_closeDay : LogsAct closeDay := by
  intro s
  have hclosing := (Logs.refl s).withdrawAll.withDay .closing s.withdrawAll.lastOpened
  unfold closeDay
  split
  · exact .same rfl
  · exact .same rfl
  · exact (hclosing.closeIfDrained).answer rfl

/-! ### The console's requests (R78 to R83, R96, R126 to R133) -/

theorem logsAct_openLane (i : LaneNo) : LogsAct (openLane i) := by
  intro s
  unfold openLane
  dsimp only
  split
  case h_1 => exact ((Logs.refl s).modLane i _).answer rfl
  case h_3 => exact (((Logs.refl s).modLane i _).raiseAt _ i).answer rfl
  all_goals exact .same rfl

theorem logsAct_closeLane (i : LaneNo) : LogsAct (closeLane i) := by
  intro s
  unfold closeLane closeLane.inService
  dsimp only
  split
  case h_1 | h_4 => exact .same rfl
  case h_2 | h_3 => exact ((Logs.refl s).modLane i _).answer rfl
  all_goals exact ((Logs.refl s).closeInService i).answer rfl

theorem logsAct_clearLane (i : LaneNo) : LogsAct (clearLane i) := by
  intro s
  unfold clearLane
  split
  · exact ((Logs.refl s).modLane i _).answer rfl
  · exact .same rfl

theorem logsAct_configureLane (config : LaneConfig) (i : LaneNo) : LogsAct (configureLane config i) := by
  intro s
  have hstored := (Logs.refl s).modLane i (LaneUnit.store s.clock (clampConfig config))
  unfold configureLane configureLane.busy
  dsimp only
  split
  case h_1 | h_2 => exact hstored.answer rfl
  case h_3 | h_4 => exact (hstored.modLane i _).answer rfl
  all_goals exact .same rfl

theorem Logs.startLift {s t : State} (h : Logs s t) : Logs s t.startLift := by
  unfold State.startLift
  split
  · exact (h.withPacer _).arbitrate
  · exact (h.withPacer _).freeReleaseAll

theorem logsAct_setLift (state : Nat) : LogsAct (setLift state) := by
  intro s
  unfold setLift
  split
  · exact .same rfl
  · split
    · exact .same rfl
    · split
      · exact (Logs.refl s).startLift.answer rfl
      · exact ⟨(Logs.refl s).quiet rfl rfl, rfl⟩

theorem logsAct_setSeats (seats : Nat) : LogsAct (setSeats seats) := fun s => ((Logs.refl s).withPacer _).answer rfl

theorem logsAct_setPacing (mode : Nat) (settings : PacingSettings) : LogsAct (setPacing mode settings) := by
  intro s
  unfold setPacing
  split
  · exact .same rfl
  · rename_i m _
    have hset := (Logs.refl s).withPacer (s.pacer.setMode s.clock m (clampPacing settings))
    refine ⟨?_, rfl⟩
    dsimp only
    split
    · exact hset.freeReleaseAll
    · exact hset

/-! ### Event Status and reports (R122, R161 to R167) -/

theorem logsAct_readEvents (l : LinkNo) : LogsAct (readEvents l) := fun s =>
  ((Logs.refl s).modLink (fun _ => Endpoint.decided_emptied s.levels l _) rfl).answer rfl

theorem logsAct_setMask (l : LinkNo) (mask : Nat) : LogsAct (setMask l mask) := by
  intro s
  unfold setMask
  split
  · exact .same rfl
  · refine Logs.answer ?_ rfl
    exact (Logs.refl s).modLink (fun hd => hd.redecide rfl) rfl

theorem logsAct_setLevels (v : Levels) : LogsAct (setLevels v) := by
  intro s
  have hlink : ∀ l, State.link { s with levels := v, links := s.links.map (Endpoint.decide v) } l =
      (s.link l).decide v := fun l => Eight.get_map _ _ l
  unfold setLevels
  split
  · exact .same rfl
  · refine ⟨⟨rfl, (·.congr rfl rfl), fun hd l => ?_, fun l => ?_⟩, rfl⟩
    · rw [hlink]
      exact (hd l).redecide rfl
    · rw [hlink]
      rfl

theorem logsAct_readCounts (l : LinkNo) (selector : Nat) : LogsAct (readCounts l selector) := by
  intro s
  unfold readCounts
  split <;> exact .same rfl

theorem logsAct_readJournal (start count : Nat) : LogsAct (readJournal start count) := by
  intro s
  unfold readJournal
  dsimp only
  split_ifs <;> exact .same rfl

/-- Every request of R178. -/
theorem logsAct_requestAction {c : Instr} {l : LinkNo} {code tag : Nat} {act : State → State × Answer}
    (hc : requestAction c = some (l, code, tag, act)) : LogsAct act := by
  cases c <;> cases hc
  case present => exact logsAct_onLinkLane (logsAct_present _ _)
  case laneStatus => exact logsAct_onLinkLane fun _ => logsAct_report fun _ => rfl
  case hello => exact logsAct_report fun _ => rfl
  case readEvents => exact logsAct_readEvents _
  case setMask => exact logsAct_setMask _ _
  case setLevels => exact logsAct_setLevels _
  case readCounts => exact logsAct_readCounts _ _
  case readJournal => exact logsAct_readJournal _ _
  case loadPass => exact logsAct_loadPass _ _ _ _ _ _ _
  case amendPass => exact logsAct_amendPass _ _ _
  case blockPass => exact logsAct_onPass logsAct_blockPass
  case unblockPass => exact logsAct_onPass logsAct_unblockPass
  case purgePass => exact logsAct_onPass logsAct_purgePass
  case readPass => exact logsAct_onPass fun _ => logsAct_report fun _ => rfl
  case mergeUse => exact logsAct_mergeUse _ _ _
  case quoteRefund => exact logsAct_onPass logsAct_quoteRefund
  case settleRefund => exact logsAct_onPass (logsAct_settleRefund _)
  case setTariff => exact logsAct_setTariff _ _
  case readTariff => exact logsAct_readTariff _
  case setClock => exact logsAct_setClock _
  case openDay => exact logsAct_openDay _
  case closeDay => exact logsAct_closeDay
  case readDay => exact logsAct_report fun _ => rfl
  case readStart => exact logsAct_report fun _ => rfl
  case clearAll => exact logsAct_report fun _ => rfl
  case setLift => exact logsAct_setLift _
  case setSeats => exact logsAct_setSeats _
  case setPacing => exact logsAct_setPacing _ _
  case readLift => exact logsAct_report fun _ => rfl
  case openLane => exact logsAct_onLane logsAct_openLane
  case closeLane => exact logsAct_onLane logsAct_closeLane
  case clearLane => exact logsAct_onLane logsAct_clearLane
  case configureLane => exact logsAct_onLane (logsAct_configureLane _)
  case readLane => exact logsAct_onLane fun _ => logsAct_report fun _ => rfl
  case unknownRequest => exact logsAct_report fun _ => rfl

end Sys2Proof.Machine

/-! ## Answers that enter and leave a queue (R173, R174, R176) -/

namespace Sys2Proof.Machine

section Endpoints
variable {l : LinkNo} {e f : Endpoint}

theorem EndpointLaw.congr (h : EndpointLaw l e) (ht : f.traffic = e.traffic) : EndpointLaw l f := by
  simp only [Endpoint.traffic, Prod.mk.injEq] at ht
  obtain ⟨hslot, hout, hdriver⟩ := ht
  exact ⟨by rw [hout, hslot]; exact h.slot, hout ▸ h.busy, hout ▸ h.behind, by rw [hdriver, hout]; exact h.driver⟩

/-- An answer at the end of the queue is not the first, or is the only one. -/
theorem begun_snoc {out : List OutAnswer} {a : OutAnswer} (h : ∀ b ∈ out.tail, b.begun = false)
    (ha : a.begun = false) : ∀ b ∈ (out ++ [a]).tail, b.begun = false := by
  cases out with
  | nil => exact fun _ hb => nomatch hb
  | cons x xs =>
    intro b hb
    rcases List.mem_append.mp hb with hb | hb
    · exact h b hb
    · rwa [List.mem_singleton.mp hb]

/-- The answer of a request taken in an EMPTY slot (R173). -/
theorem EndpointLaw.pushAnswer (h : EndpointLaw l e) (hslot : e.slot = none) (hdriver : e.driver = false) {a : Answer}
    (ha : a.isBusy = false) (code tag : Nat) : EndpointLaw l (e.pushAnswer code tag a) := by
  have hbusy : OutAnswer.isBusy { code := code, tag := tag, answer := a, begun := false } = false :=
    (OutAnswer.isBusy_eq _).trans ha
  have hnone := h.slot
  rw [hslot] at hnone
  refine ⟨?_, ?_, begun_snoc h.behind rfl, fun hd => absurd (hdriver.symm.trans hd) Bool.false_ne_true⟩
  · simp only [Endpoint.pushAnswer, List.filter_append, List.map_append, hnone, Option.toList_none]
    simp [hbusy]
  · simpa [Endpoint.pushAnswer, List.countP_append, hbusy] using h.busy

/-- A BUSY answer in place of one not begun (R174). -/
theorem EndpointLaw.pushBusy (h : EndpointLaw l e) (hdriver : e.driver = false) (code tag : Nat) (now : Nat × Nat) :
    EndpointLaw l (e.pushBusy code tag now) := by
  have hbusy : OutAnswer.isBusy { code := code, tag := tag, answer := .busy now.2 now.1, begun := false } = true := rfl
  have htail : ∀ (p : OutAnswer → Bool) (out : List OutAnswer), ∀ b ∈ (out.filter p).tail, b ∈ out.tail := by
    intro p out b hb
    cases out with
    | nil => exact hb
    | cons x xs =>
      rw [List.filter_cons] at hb
      split at hb
      · exact List.mem_of_mem_filter hb
      · exact List.mem_of_mem_filter (List.mem_of_mem_tail hb)
  refine ⟨?_, ?_, begun_snoc (fun b hb => h.behind b (htail _ _ b hb)) rfl,
    fun hd => absurd (hdriver.symm.trans hd) Bool.false_ne_true⟩
  · have hkept : ((e.output.filter fun a => !(a.isBusy && !a.begun)).filter fun a => !a.isBusy) =
        e.output.filter fun a => !a.isBusy := by
      rw [List.filter_filter]
      exact List.filter_congr fun a _ => by cases a.isBusy <;> simp
    simp only [Endpoint.pushBusy, List.filter_append, hkept]
    simpa [hbusy] using h.slot
  · have hgone : (e.output.filter fun a => !(a.isBusy && !a.begun)).countP (fun a => a.isBusy && !a.begun) = 0 :=
      List.countP_eq_zero.mpr fun a ha hp => by
        have hnot := (List.mem_filter.mp ha).2
        rw [hp] at hnot
        exact Bool.false_ne_true hnot
    simp only [Endpoint.pushBusy, List.countP_append, hgone]
    simp [hbusy]

/-- The first answer begins to leave (R176). -/
theorem EndpointLaw.beginSend (h : EndpointLaw l e) : EndpointLaw l (e.beginSend (isLaneLink l)) := by
  unfold Endpoint.beginSend
  split
  · exact h
  · rename_i hout
    obtain ⟨a, as, hcons⟩ := List.exists_cons_of_ne_nil hout
    obtain ⟨hslot, hbusy, hbehind, -⟩ := h
    rw [hcons] at hslot hbusy hbehind ⊢
    have hsame : OutAnswer.isBusy { a with begun := true } = a.isBusy := rfl
    refine ⟨?_, ?_, hbehind, fun hd => ⟨hd, rfl⟩⟩
    · rw [← hslot]
      simp only [beginHead, List.filter_cons, hsame]
      split <;> rfl
    · refine Nat.le_trans ?_ hbusy
      simp [beginHead, List.countP_cons]

/-- The first answer has left, with no driver enabled (R174). -/
theorem EndpointLaw.sent (h : EndpointLaw l e) {a : OutAnswer} {as : List OutAnswer} (hout : e.output = a :: as) :
    EndpointLaw l { e with output := as, slot := slotAfter a e.slot, driver := false } := by
  obtain ⟨hslot, hbusy, hbehind, -⟩ := h
  rw [hout] at hslot hbusy hbehind
  refine ⟨?_, ?_, fun b hb => hbehind b (List.mem_of_mem_tail hb), fun hd => absurd hd Bool.false_ne_true⟩
  · cases ha : a.isBusy with
    | true => simpa [slotAfter, ha] using hslot
    | false =>
      have hrest : (as.filter fun a => !a.isBusy).map (fun a => (a.code, a.tag)) = [] := by
        cases hs : e.slot with
        | none => simp [ha, hs] at hslot
        | some now =>
          rw [hs, List.filter_cons_of_pos (by simp [ha])] at hslot
          exact (List.cons.inj hslot).2
      simpa [slotAfter, ha] using hrest
  · exact Nat.le_trans (by simp [List.countP_cons]) hbusy

theorem EndpointLaw.uartSent (h : EndpointLaw l e) : EndpointLaw l (e.uartSent (isLaneLink l)) := by
  unfold Endpoint.uartSent
  split
  · exact h
  · exact (h.sent ‹_›).beginSend

/-- The office link has no driver (R176). -/
theorem EndpointLaw.office_driver (h : EndpointLaw officeLink e) : e.driver = false :=
  Bool.eq_false_iff.mpr fun hd => Bool.false_ne_true (h.driver hd).1

theorem EndpointLaw.officeSent (h : EndpointLaw officeLink e) : EndpointLaw officeLink e.officeSent := by
  unfold Endpoint.officeSent
  split
  · exact h
  · exact (h.sent ‹_›).congr (by simp [Endpoint.traffic, h.office_driver])

theorem endpointLaw_atStart (l : LinkNo) : EndpointLaw l Endpoint.atStart :=
  ⟨rfl, Nat.zero_le _, fun _ ha => (nomatch ha), fun hd => absurd hd Bool.false_ne_true⟩

/-- Every driver is disabled with RESET or power (R182). -/
theorem EndpointLaw.outputsOff (h : EndpointLaw l e) :
    EndpointLaw l { e with attention := false, driver := false } :=
  { h with driver := fun hd => absurd hd Bool.false_ne_true }

end Endpoints

/-! ## Every step keeps the Journal, the lines and the answers -/

/-- Each of the three laws that the first state has, the second has too. -/
structure KeepsLogs (s t : State) : Prop where
  journal : JournalLaw s → JournalLaw t
  attention : AttentionLaw s → AttentionLaw t
  links : LinksLaw s → LinksLaw t

theorem KeepsLogs.refl (s : State) : KeepsLogs s s := ⟨id, id, id⟩

theorem KeepsLogs.trans {s t r : State} (h : KeepsLogs s t) (k : KeepsLogs t r) : KeepsLogs s r :=
  ⟨k.journal ∘ h.journal, k.attention ∘ h.attention, k.links ∘ h.links⟩

section Keep
variable {s t r : State}

/-- What an event enters, in a part that runs. -/
theorem Logs.keeps (h : Logs s t) (hrun : s.run = .running) : KeepsLogs s t where
  journal := h.journal
  attention := by
    rw [attentionLaw_iff_decided hrun, attentionLaw_iff_decided (h.run.trans hrun)]
    exact h.decided
  links := fun hl l => (hl l).congr (h.traffic l)

/-- A change of answers, slots and drivers, and of nothing else these laws read. -/
theorem keepsLogs_of_traffic (hlog : t.log = s.log) (hs : ∀ l, (t.link l).status = (s.link l).status)
    (hl : LinksLaw s → LinksLaw t) : KeepsLogs s t := by
  simp only [State.log, Prod.mk.injEq] at hlog
  obtain ⟨hrun, hlevels, hj, hn⟩ := hlog
  simp only [Endpoint.status, Prod.mk.injEq] at hs
  refine ⟨(·.congr hj hn), fun ⟨sets, scope, line, held⟩ => ⟨fun l => ?_, fun l => ?_, fun l => ?_, fun l => ?_⟩, hl⟩
  · rw [(hs l).1]; exact sets l
  · rw [(hs l).1]; exact scope l
  · rw [hrun, (hs l).2.2, hlevels, (hs l).2.1, (hs l).1]; exact line l
  · rw [hrun, (hs l).2.2]; exact held l

/-- A change outside log and links. -/
theorem KeepsLogs.quiet (h : KeepsLogs s t) (hlog : r.log = t.log) (hlinks : r.links = t.links) : KeepsLogs s r := by
  have hlink : ∀ l, r.link l = t.link l := fun l => by rw [State.link, hlinks, State.link]
  exact h.trans (keepsLogs_of_traffic hlog (fun l => by rw [hlink]) fun hl l => by rw [hlink]; exact hl l)

theorem KeepsLogs.withOffice (h : KeepsLogs s t) (o : OfficePort) (n : Nat) :
    KeepsLogs s { t with office := o, freeCount := n } := h.quiet rfl rfl

/-- A change of one link's answers. -/
theorem KeepsLogs.modLink (h : KeepsLogs s t) {l : LinkNo} {f : Endpoint → Endpoint}
    (hs : (f (t.link l)).status = (t.link l).status)
    (hl : EndpointLaw l (t.link l) → EndpointLaw l (f (t.link l))) : KeepsLogs s (t.modLink l f) := by
  refine h.trans (keepsLogs_of_traffic rfl (fun k => ?_) fun hlinks k => ?_)
  · rw [State.modLink_link]
    split
    · subst_vars; exact hs
    · rfl
  · rw [State.modLink_link]
    split
    · subst_vars; exact hl (hlinks _)
    · exact hlinks k

theorem KeepsLogs.reply (h : KeepsLogs s t) {l : LinkNo} (hslot : (t.link l).slot = none)
    (hdriver : (t.link l).driver = false) {a : Answer} (ha : a.isBusy = false) (code tag : Nat) :
    KeepsLogs s (t.reply l code tag a) := by
  have hpushed := h.modLink (l := l) (f := Endpoint.pushAnswer code tag a) rfl
    fun hl => hl.pushAnswer hslot hdriver ha code tag
  rw [State.reply_eq]
  exact hpushed.withOffice _ _

/-! ### Answers leave (R174, R176, R177) -/

theorem Endpoint.beginSend_status (lane : Bool) (e : Endpoint) : (e.beginSend lane).status = e.status := by
  unfold Endpoint.beginSend
  split <;> rfl

theorem Endpoint.uartSent_status (lane : Bool) (e : Endpoint) : (e.uartSent lane).status = e.status := by
  unfold Endpoint.uartSent
  split
  · rfl
  · exact Endpoint.beginSend_status _ _

theorem Endpoint.officeSent_status (e : Endpoint) : e.officeSent.status = e.status := by
  unfold Endpoint.officeSent
  split <;> rfl

theorem KeepsLogs.beginSend (h : KeepsLogs s t) (l : LinkNo) :
    KeepsLogs s (t.modLink l (Endpoint.beginSend (isLaneLink l))) :=
  h.modLink (Endpoint.beginSend_status _ _) EndpointLaw.beginSend

/-- A start leaves a run of records, empty sets and empty queues (R183). -/
theorem keepsLogs_start (s : State) (kind : StartKind) (cause : StartCause) : KeepsLogs s (s.start kind cause) := by
  have hlink : ∀ l, (s.start kind cause).link l = Endpoint.atStart := fun l => Eight.get_all _ l
  have hrun : (s.start kind cause).run = .running := rfl
  refine ⟨fun hj => ?_, fun _ => (attentionLaw_iff_decided hrun).mpr fun l => ?_, fun _ l => ?_⟩
  · refine JournalRun.append (s := State.restart _ kind cause _) ?_ _
    show JournalRun (if kind = .cold then s.emptied else s).journal (if kind = .cold then s.emptied else s).nextSeq
    split
    · exact ⟨Nat.zero_le _, (by decide : 1 < Config.seqTop), fun k hk => absurd hk (Nat.not_lt_zero k)⟩
    · exact ((journalLaw_iff s).mp hj).2
  · rw [hlink]; exact Endpoint.decided_atStart _ l
  · rw [hlink]; exact endpointLaw_atStart l

theorem KeepsLogs.clearAllSent (h : KeepsLogs s t) (a : OutAnswer) : KeepsLogs s (t.clearAllSent a) :=
  (h.trans (keepsLogs_start t .cold .clearAll)).withOffice _ _

theorem KeepsLogs.officeSent (h : KeepsLogs s t) (a : OutAnswer) : KeepsLogs s (t.officeSent a) := by
  unfold State.officeSent
  split
  · exact h.clearAllSent a
  · exact (h.modLink (Endpoint.officeSent_status _) EndpointLaw.officeSent).withOffice _ _

theorem KeepsLogs.clockOut (h : KeepsLogs s t) : KeepsLogs s t.clockOut := by
  have hfiller : KeepsLogs s t.useFiller := by
    rw [State.useFiller_eq]; exact h.withOffice _ _
  unfold State.clockOut
  split
  · exact h.withOffice _ _
  · split
    · exact hfiller.withOffice _ _
    · unfold State.clockByte
      split
      · exact (hfiller.beginSend officeLink).withOffice _ _
      · exact hfiller.officeSent _

/-! ### Events of a part that runs -/

/-- An event that enters records and pairs, if it reaches the part. -/
theorem keepsLogs_whenRunning {event : State → State} (h : Logs s (event s)) :
    Gives (KeepsLogs s) (whenRunning s event) := by
  unfold whenRunning
  split
  · exact gives_next.mpr (h.keeps ‹_›)
  · exact gives_next.mpr (.refl s)

theorem keepsLogs_rotorLeave (i : LaneNo) : Gives (KeepsLogs s) (execRotorLeave i s) :=
  keepsLogs_whenRunning ((Logs.refl s).modLane i _)

theorem keepsLogs_mid (i : LaneNo) : Gives (KeepsLogs s) (execMid i s) := by
  have hmarked := (Logs.refl s).modLane i (LaneUnit.markMid s.clock)
  refine keepsLogs_whenRunning ?_
  dsimp only
  split_ifs
  · exact hmarked.endHead i _
  · exact hmarked
  · exact .refl s

theorem keepsLogs_returnToHome (i : LaneNo) : Gives (KeepsLogs s) (execReturnToHome i s) := by
  refine keepsLogs_whenRunning ?_
  split
  · split
    · exact (Logs.refl s).returnHome i _
    · exact .refl s
  · exact .refl s

theorem keepsLogs_beamSample (i : LaneNo) (level : Nat) : Gives (KeepsLogs s) (execBeamSample i level s) := by
  refine keepsLogs_whenRunning ?_
  dsimp only
  split
  · exact .refl s
  · split
    · exact ((Logs.refl s).modLane i _).detect i _
    · exact (Logs.refl s).modLane i _

theorem keepsLogs_beamBlockedExpiry (i : LaneNo) : Gives (KeepsLogs s) (execBeamBlockedExpiry i s) := by
  refine keepsLogs_whenRunning ?_
  dsimp only
  split
  · exact .refl s
  · exact (((Logs.refl s).waitUntil _).modLane i _).note _ _ i

theorem keepsLogs_settleExpiry (i : LaneNo) (home : Bool) : Gives (KeepsLogs s) (execSettleExpiry i home s) := by
  refine keepsLogs_whenRunning ?_
  dsimp only
  split
  · exact .refl s
  · split
    · exact (((Logs.refl s).waitUntil _).modLane i _).raiseAt _ i
    · exact (((Logs.refl s).waitUntil _).modLane i _).enterFault i _

theorem keepsLogs_creditLifeExpiry (i : LaneNo) (credit : Nat) :
    Gives (KeepsLogs s) (execCreditLifeExpiry i credit s) := by
  refine keepsLogs_whenRunning ?_
  dsimp only
  split
  · exact .refl s
  · split
    · exact ((Logs.refl s).waitUntil _).endHead i _
    · exact ((Logs.refl s).waitUntil _).endCredit i _ _

theorem keepsLogs_unlockStart (i : LaneNo) : Gives (KeepsLogs s) (execUnlockStart i s) := by
  refine keepsLogs_whenRunning ?_
  split
  · exact .refl s
  · split
    · exact ((Logs.refl s).waitUntil _).tryUnlock i
    · exact .refl s

theorem keepsLogs_unlockEnd (i : LaneNo) : Gives (KeepsLogs s) (execUnlockEnd i s) := by
  refine keepsLogs_whenRunning ?_
  split
  · exact .refl s
  · split
    · exact ((Logs.refl s).waitUntil _).endHead i _
    · exact ((Logs.refl s).waitUntil _).modLane i _
    · exact .refl s

theorem keepsLogs_passageLimitExpiry (i : LaneNo) : Gives (KeepsLogs s) (execPassageLimitExpiry i s) := by
  refine keepsLogs_whenRunning ?_
  dsimp only
  split
  · exact .refl s
  · exact (((Logs.refl s).waitUntil _).modLane i _).detect i _

theorem keepsLogs_silenceExpiry (i : LaneNo) : Gives (KeepsLogs s) (execSilenceExpiry i s) := by
  refine keepsLogs_whenRunning ?_
  dsimp only
  split
  · exact .refl s
  · exact ((((Logs.refl s).waitUntil _).modLane i _).withdraw i _ _).note _ _ i

theorem keepsLogs_carrierEdge : Gives (KeepsLogs s) (execCarrierEdge s) := by
  refine keepsLogs_whenRunning ?_
  split
  · exact .refl s
  · split
    · exact .refl s
    · exact (Logs.refl s).acceptEdge _
    · exact (Logs.refl s).acceptEdge _

theorem keepsLogs_lostWatchExpiry : Gives (KeepsLogs s) (execLostWatchExpiry s) := by
  refine keepsLogs_whenRunning ?_
  dsimp only
  split
  · exact ((((Logs.refl s).waitUntil _).withPacer _).append _).raise _
  · exact .refl s

theorem keepsLogs_frameDiscarded (l : LinkNo) : Gives (KeepsLogs s) (execFrameDiscarded l s) := by
  refine keepsLogs_whenRunning ?_
  split
  · exact .refl s
  · exact (Logs.refl s).idleReceiver l

theorem keepsLogs_byteError (l : LinkNo) : Gives (KeepsLogs s) (execByteError l s) := by
  refine keepsLogs_whenRunning ?_
  split
  · exact (Logs.refl s).idleReceiver l
  · exact .refl s

theorem keepsLogs_frameGapExpiry (l : LinkNo) : Gives (KeepsLogs s) (execFrameGapExpiry l s) := by
  refine keepsLogs_whenRunning ?_
  split
  · exact .refl s
  · split
    · exact ((Logs.refl s).waitUntil _).idleReceiver l
    · exact .refl s

theorem keepsLogs_chipSelectRelease : Gives (KeepsLogs s) (execChipSelectRelease s) :=
  keepsLogs_whenRunning ((Logs.refl s).idleReceiver officeLink)

theorem keepsLogs_answerSendBegin (l : LinkNo) : Gives (KeepsLogs s) (execAnswerSendBegin l s) := by
  have hbegun := (KeepsLogs.refl s).beginSend l
  refine gives_whenRunning (.refl s) ?_
  dsimp only
  split
  · exact .refl s
  · split_ifs
    · exact .refl s
    · exact hbegun
    · exact hbegun.withOffice _ _

theorem keepsLogs_answerSent (l : LinkNo) : Gives (KeepsLogs s) (execAnswerSent l s) := by
  refine gives_whenRunning (.refl s) ?_
  split
  · exact .refl s
  · split
    · exact (KeepsLogs.refl s).modLink (Endpoint.uartSent_status _ _) EndpointLaw.uartSent
    · exact (KeepsLogs.refl s).officeSent _

theorem keepsLogs_clearAllStart : Gives (KeepsLogs s) (execClearAllStart s) := by
  refine gives_whenRunning (.refl s) ?_
  split
  · exact (KeepsLogs.refl s).clearAllSent _
  · exact .refl s

/-! ### RESET and power (R182) -/

/-- Attention lines and drivers of a part that stops are inactive. -/
theorem keepsLogs_outputsOff (s : State) {x : RunState} (hx : x ≠ .running) :
    KeepsLogs s { s.outputsOff with run := x } := by
  have hlink : ∀ l, State.link { s.outputsOff with run := x } l =
      { s.link l with attention := false, driver := false } := fun l => Eight.get_map _ s.links l
  refine ⟨(·.congr rfl rfl), fun ⟨sets, scope, _, _⟩ =>
    ⟨fun l => ?_, fun l => ?_, fun _ e => absurd e hx, fun l _ => ?_⟩, fun hl l => ?_⟩
  · rw [hlink]; exact sets l
  · rw [hlink]; exact scope l
  · rw [hlink]
  · rw [hlink]; exact (hl l).outputsOff

/-- A part that does not run may be held in another way. -/
theorem keepsLogs_stopped (hrun : s.run ≠ .running) {x : RunState} (hx : x ≠ .running) :
    KeepsLogs s { s with run := x } :=
  ⟨(·.congr rfl rfl), fun ⟨sets, scope, _, held⟩ => ⟨sets, scope, fun _ e => absurd e hx, fun l _ => held l hrun⟩, id⟩

theorem keepsLogs_powerUp (retainOk : Bool) : Gives (KeepsLogs s) (execPowerUp retainOk s) := by
  refine gives_next.mpr ?_
  split
  case h_1 hrun => exact keepsLogs_stopped (by simp [hrun]) (nomatch ·)
  case h_2 => exact keepsLogs_start s _ _
  all_goals exact .refl s

theorem keepsLogs_resetAsserted : Gives (KeepsLogs s) (execResetAsserted s) := by
  refine gives_next.mpr ?_
  split
  case h_1 => exact keepsLogs_outputsOff s (nomatch ·)
  case h_2 hrun => exact keepsLogs_stopped (by simp [hrun]) (nomatch ·)
  all_goals exact .refl s

theorem keepsLogs_resetReleased : Gives (KeepsLogs s) (execResetReleased s) := by
  refine gives_next.mpr ?_
  split
  case h_1 | h_2 => exact keepsLogs_start s _ _
  case h_3 hrun => exact keepsLogs_stopped (by simp [hrun]) (nomatch ·)
  case h_4 => exact .refl s

theorem keepsLogs_powerLoss : Gives (KeepsLogs s) (execPowerLoss s) := by
  refine gives_next.mpr ?_
  split
  case h_1 => exact keepsLogs_outputsOff s (nomatch ·)
  case h_2 hrun | h_3 hrun => exact keepsLogs_stopped (by simp [hrun]) (nomatch ·)
  case h_4 => exact .refl s

/-! ### Requests and bytes -/

/-- A frame is answered once, in an EMPTY slot, on a link whose driver is disabled (R173, R176). -/
theorem keepsLogs_takeFrame {act : State → State × Answer} (hact : LogsAct act) (l : LinkNo) (code tag : Nat) :
    Gives (KeepsLogs s) (takeFrame l code tag act s) := by
  rcases takeFrame_cases l code tag act s with ⟨-, e⟩ | ⟨hrun, hdriver, hcases⟩
  · rw [e, gives_next]; exact .refl s
  have htaken := (Logs.refl s).taken l
  have hreply : ∀ {t : State} {a : Answer}, Logs s t → (s.link l).slot = none → a.isBusy = false →
      KeepsLogs s (t.reply l code tag a) := by
    intro t a ht hslot ha
    have htraffic := ht.traffic l
    simp only [Endpoint.traffic, Prod.mk.injEq] at htraffic
    obtain ⟨hslot', -, hdriver'⟩ := htraffic
    exact (ht.keeps hrun).reply (hslot'.trans hslot) (hdriver'.trans hdriver) ha code tag
  rcases hcases with ⟨now, -, e⟩ | ⟨hslot, ⟨-, e⟩ | ⟨-, -, e⟩ | ⟨-, -, e⟩⟩ <;> rw [e, gives_next]
  · exact (htaken.keeps hrun).modLink rfl fun hl => hl.pushBusy (by simpa using hdriver) code tag now
  · exact hreply htaken hslot rfl
  · exact hreply htaken hslot rfl
  · exact hreply (htaken.trans (hact _).logs) hslot (hact _).answer

/-- A request, from its row or from the byte that completes its frame. -/
theorem keepsLogs_runRequest (c : Instr) : Gives (KeepsLogs s) (runRequest c s) := by
  cases hc : requestAction c with
  | none => rw [runRequest_noAction hc, gives_next]; exact .refl s
  | some x =>
    obtain ⟨l, code, tag, act⟩ := x
    rw [runRequest_requestAction hc]
    exact keepsLogs_takeFrame (logsAct_requestAction hc) l code tag

/-- The receiver is none of these laws' business. -/
theorem keepsLogs_receiver (s : State) (l : LinkNo) (x : Receiver) :
    KeepsLogs s (s.modLink l fun e => { e with receiver := x }) :=
  (KeepsLogs.refl s).modLink rfl (·.congr rfl)

theorem keepsLogs_receiveByte (l : LinkNo) (b : Byte) : Gives (KeepsLogs s) (receiveByte l b s) := by
  have hhold : ∀ bytes : List Byte, KeepsLogs s (s.hold l bytes) := fun _ => keepsLogs_receiver s l _
  have hidle : KeepsLogs s (s.idleReceiver l) := keepsLogs_receiver s l _
  unfold receiveByte
  split
  · rw [gives_next]
    split
    · exact hhold _
    · exact .refl s
  · dsimp only
    split_ifs
    · exact gives_next.mpr hidle
    · unfold completeFrame
      split
      · exact keepsLogs_runRequest _
      · exact gives_next.mpr hidle
    · exact gives_next.mpr (hhold _)

theorem keepsLogs_byteReceived (l : LinkNo) (b : Byte) : Gives (KeepsLogs s) (execByteReceived l b s) := by
  have hout := (KeepsLogs.refl s).clockOut
  unfold execByteReceived
  split_ifs
  · exact gives_next.mpr (.refl s)
  · exact keepsLogs_receiveByte l b
  · exact gives_next.mpr hout
  · exact (keepsLogs_receiveByte l b).imp fun _ => hout.trans
  · exact gives_next.mpr (.refl s)

/-! ### The step -/

/-- A command that is no request. -/
theorem keepsLogs_event {c : Instr} (hc : requestAction c = none) : Gives (KeepsLogs s) (exec c s) := by
  cases c <;> cases hc
  case frameDiscarded => exact keepsLogs_frameDiscarded _
  case frameGapExpiry => exact keepsLogs_frameGapExpiry _
  case byteError => exact keepsLogs_byteError _
  case chipSelectRelease => exact keepsLogs_chipSelectRelease
  case answerSendBegin => exact keepsLogs_answerSendBegin _
  case answerSent => exact keepsLogs_answerSent _
  case rotorLeave => exact keepsLogs_rotorLeave _
  case mid => exact keepsLogs_mid _
  case returnToHome => exact keepsLogs_returnToHome _
  case beamSample => exact keepsLogs_beamSample _ _
  case carrierEdge => exact keepsLogs_carrierEdge
  case settleExpiry => exact keepsLogs_settleExpiry _ _
  case creditLifeExpiry => exact keepsLogs_creditLifeExpiry _ _
  case unlockStart => exact keepsLogs_unlockStart _
  case unlockEnd => exact keepsLogs_unlockEnd _
  case passageLimitExpiry => exact keepsLogs_passageLimitExpiry _
  case silenceExpiry => exact keepsLogs_silenceExpiry _
  case beamBlockedExpiry => exact keepsLogs_beamBlockedExpiry _
  case lostWatchExpiry => exact keepsLogs_lostWatchExpiry
  case powerUp => exact keepsLogs_powerUp _
  case resetAsserted => exact keepsLogs_resetAsserted
  case resetReleased => exact keepsLogs_resetReleased
  case powerLoss => exact keepsLogs_powerLoss
  case clearAllStart => exact keepsLogs_clearAllStart
  case byteReceived => exact keepsLogs_byteReceived _ _

theorem keepsLogs_exec (c : Instr) : Gives (KeepsLogs s) (exec c s) := by
  cases hc : requestAction c with
  | none => exact keepsLogs_event hc
  | some x =>
    obtain ⟨l, code, tag, act⟩ := x
    rw [exec_requestAction hc]
    exact keepsLogs_takeFrame (logsAct_requestAction hc) l code tag

theorem keepsLogs_step : Gives (KeepsLogs s) (step s) := by
  unfold step
  split
  · rw [gives_next]
    unfold idle
    split
    · exact (KeepsLogs.refl s).quiet rfl rfl
    · exact .refl s
  · rename_i c rest _
    have hfront : KeepsLogs s { s with pending := rest } := (KeepsLogs.refl s).quiet rfl rfl
    exact (keepsLogs_exec c).imp fun _ => hfront.trans

end Keep

end Sys2Proof.Machine

namespace Sys2Proof.Machine

/-- Settles O59: the Journal changes by appends alone, each under the next number, and by a COLD start, which begins the
run again. -/
theorem journalLawIsKept : Obligations.JournalLawIsKept := fun _ t hlaw hstep => (keepsLogs_step t hstep).journal hlaw

/-- Settles O60: a raise and a new mask or level table decide the lines they concern, a frame is answered once in an
EMPTY slot, and the first answer of a queue alone begins and leaves. -/
theorem linkLawsAreKept : Obligations.LinkLawsAreKept := fun _ t hattention hlinks hstep =>
  have h := keepsLogs_step t hstep
  ⟨h.attention hattention, h.links hlinks⟩

end Sys2Proof.Machine

/-! ## Numbers in bytes, frames, and the requests they carry (R170 to R173, R178) -/

namespace Sys2Proof

/-! ### Numbers (R170) -/

theorem be_one (n : Nat) : be 1 n = [BitVec.ofNat 8 n] := rfl

theorem unbe_append_byte (bs : List Byte) (b : Byte) : unbe (bs ++ [b]) = unbe bs * 256 + b.toNat := by
  simp [unbe]

/-- `w` bytes hold a number modulo 256 to the power `w`. -/
theorem unbe_be (w n : Nat) : unbe (be w n) = n % 256 ^ w := by
  induction w generalizing n with
  | zero => simp [be, unbe, Nat.mod_one]
  | succ w ih =>
    rw [be, unbe_append_byte, ih, BitVec.toNat_ofNat, Nat.pow_succ' (n := w), Nat.mod_mul]
    omega

/-- The first field of a body. -/
theorem bodyNum_field (w n : Nat) (rest : List Byte) : bodyNum (be w n ++ rest) 0 w = n % 256 ^ w := by
  rw [bodyNum, List.drop_zero, List.take_left' (be_length w n), unbe_be]

/-- The fields behind the first. -/
theorem bodyNum_skip {w k : Nat} (h : w ≤ k) (n v : Nat) (rest : List Byte) :
    bodyNum (be w n ++ rest) k v = bodyNum rest (k - w) v := by
  rw [bodyNum, List.drop_append, List.drop_of_length_le (by simpa using h), be_length, List.nil_append, bodyNum]

/-- The only field of a body. -/
theorem bodyNum_last (w n : Nat) : bodyNum (be w n) 0 w = n % 256 ^ w := by
  simpa using bodyNum_field w n []

/-- A number of one byte. -/
theorem bodyNum_one (bs : List Byte) (k : Nat) : bodyNum bs k 1 = (bs.getD k 0#8).toNat := by
  rw [bodyNum, List.getD_eq_getElem?_getD, ← List.head?_drop]
  cases bs.drop k with
  | nil => rfl
  | cons b cs => simp [unbe]

/-! ### Frames (R170, R172) -/

theorem crc_lt (bs : List Byte) : crc bs < 65536 := BitVec.isLt _

/-- A frame's body has the length its code asks for, when R178 has the code (R172). -/
def LengthFits (code : Nat) (body : List Byte) : Prop := ∀ n, bodyLength code = some n → n = body.length

section Frames
variable {marker : Byte} {code tag : Nat} {body : List Byte}

theorem frameOf_eq : frameOf marker code tag body =
    marker :: (be 1 code ++ (be 1 tag ++ (be 1 body.length ++
      (body ++ be 2 (crc (be 1 code ++ be 1 tag ++ be 1 body.length ++ body)))))) := by
  simp [frameOf]

/-- The code, the tag and the length of a frame, where R172 looks for them. -/
theorem bodyNum_frameOf (hcode : code < 256) (htag : tag < 256) (hbody : body.length < 256) :
    bodyNum (frameOf marker code tag body) 1 1 = code ∧ bodyNum (frameOf marker code tag body) 2 1 = tag ∧
      bodyNum (frameOf marker code tag body) 3 1 = body.length := by
  simp only [bodyNum_one, frameOf_eq, be_one]
  simp [Nat.mod_eq_of_lt, hcode, htag, hbody]

/-- A frame of a fitting length passes the checks of R172. -/
theorem frameGood_frameOf (hcode : code < 256) (htag : tag < 256) (hbody : body.length < 256)
    (hfits : LengthFits code body) : frameGood (frameOf marker code tag body) = true := by
  obtain ⟨hc, -, hl⟩ := bodyNum_frameOf (marker := marker) hcode htag hbody
  have hcovered : ((frameOf marker code tag body).drop 1).take (3 + body.length) =
      be 1 code ++ be 1 tag ++ be 1 body.length ++ body :=
    List.take_left' (by simp; omega)
  have hcrc : bodyNum (frameOf marker code tag body) (4 + body.length) 2 =
      crc (be 1 code ++ be 1 tag ++ be 1 body.length ++ body) := by
    have hdrop : (frameOf marker code tag body).drop (4 + body.length) =
        be 2 (crc (be 1 code ++ be 1 tag ++ be 1 body.length ++ body)) :=
      List.drop_left' (l₁ := marker :: (be 1 code ++ be 1 tag ++ be 1 body.length ++ body)) (by simp; omega)
    rw [bodyNum, hdrop, List.take_of_length_le (by simp), unbe_be]
    exact Nat.mod_eq_of_lt (crc_lt _)
  simp only [frameGood, hc, hl, hcovered, hcrc, beq_self_eq_true, Bool.and_true]
  split
  · exact beq_iff_eq.mpr (hfits _ ‹_›)
  · rfl

/-- A frame of a fitting length is read as the request of its code, tag and body (R172, R173). -/
theorem frameRequest_frameOf (l : LinkNo) (hcode : code < 256) (htag : tag < 256) (hbody : body.length < 256)
    (hfits : LengthFits code body) :
    frameRequest l (frameOf marker code tag body) = some (requestOf l code tag body) := by
  obtain ⟨hc, ht, hl⟩ := bodyNum_frameOf (marker := marker) hcode htag hbody
  have hread : ((frameOf marker code tag body).drop 4).take body.length = body := by
    rw [frameOf_eq]
    exact List.take_left' rfl
  rw [frameRequest, if_pos (frameGood_frameOf hcode htag hbody hfits), hc, ht, hl, hread]

end Frames

/-! ### The codes of R178 -/

/-- R178 lists a body length for its codes and for no other. -/
theorem bodyLength_isSome (code : Nat) : (bodyLength code).isSome = isRequestCode code := by
  unfold bodyLength
  split
  case h_35 =>
    simp only [Option.isSome_none, isRequestCode, Bool.false_eq, Bool.or_eq_false_iff, Bool.and_eq_false_iff,
      decide_eq_false_iff_not]
    simp only [imp_false] at *
    omega
  all_goals rfl

theorem bodyLength_eq_none {code : Nat} (h : isRequestCode code = false) : bodyLength code = none := by
  rw [← bodyLength_isSome] at h
  simpa using h

/-- A code that R178 does not list is read as an unknown request, whatever the body (R173). -/
theorem requestOf_unknown {code : Nat} (h : isRequestCode code = false) (l : LinkNo) (tag : Nat) (body : List Byte) :
    requestOf l code tag body = .unknownRequest l tag code := by
  unfold requestOf
  split
  case h_35 => rfl
  all_goals exact absurd h (by decide)

/-! ### Requests -/

/-- Code and tag of a well-formed request fit their bytes, and its body has the length of its code (R178). -/
theorem requestParts_fits {i : Instr} {l : LinkNo} {code tag : Nat} {body : List Byte} (hwf : i.wf = true)
    (h : requestParts i = some (l, code, tag, body)) :
    code < 256 ∧ tag < 256 ∧ body.length ≤ 240 ∧ LengthFits code body := by
  cases i <;> cases h
  case unknownRequest =>
    simp only [Instr.wf, fits8, Bool.and_eq_true, decide_eq_true_eq, Bool.not_eq_true'] at hwf
    obtain ⟨⟨htag, hcode⟩, hunknown⟩ := hwf
    exact ⟨hcode, htag, Nat.zero_le _, fun n hn => by simp [bodyLength_eq_none hunknown] at hn⟩
  all_goals
    simp only [Instr.wf, fits8, Bool.and_eq_true, decide_eq_true_eq] at hwf
    refine ⟨by decide, by simp only [hwf], by simp, fun n hn => ?_⟩
    cases hn
    simp

/-- The fields of a well-formed request's body are its operands (R178). -/
theorem requestOf_requestParts {i : Instr} {l : LinkNo} {code tag : Nat} {body : List Byte} (hwf : i.wf = true)
    (h : requestParts i = some (l, code, tag, body)) : requestOf l code tag body = i := by
  cases i <;> cases h
  case unknownRequest =>
    simp only [Instr.wf, Bool.and_eq_true, Bool.not_eq_true'] at hwf
    exact requestOf_unknown hwf.2 l _ _
  all_goals
    simp only [Instr.wf, Levels.wf, Tariff.wf, LaneConfig.wf, PacingSettings.wf, fits8, fits16, fits32,
      Bool.and_eq_true, decide_eq_true_eq] at hwf
    simp [requestOf, bodyNum_field, bodyNum_skip, bodyNum_last, Nat.mod_eq_of_lt, hwf]

end Sys2Proof

namespace Sys2Proof.Machine

/-- Settles O8: a frame of a fitting length is read by its code, tag and body, and the fields of the body are the
operands. -/
theorem requestFrameIsReadBack : Obligations.RequestFrameIsReadBack := by
  refine ⟨fun i l bs hwf hframe => ?_, fun l code tag body hcode htag hunknown hbody => ?_⟩
  · obtain ⟨⟨l', code, tag, body⟩, hparts, hbs⟩ := Option.map_eq_some_iff.mp hframe
    cases hbs
    obtain ⟨hcode, htag, hbody, hfits⟩ := requestParts_fits hwf hparts
    rw [frameRequest_frameOf l hcode htag (by omega) hfits, requestOf_requestParts hwf hparts]
  · have hfits : LengthFits code body := fun n hn => by simp [bodyLength_eq_none hunknown] at hn
    rw [frameRequest_frameOf l hcode htag (by omega) hfits, requestOf_unknown hunknown]

end Sys2Proof.Machine

/-! ## Bytes at a receiver (R172, R173, R177) -/

namespace Sys2Proof.Machine

/-! ### The request of a completed frame -/

/-- What a frame is read as is a request. -/
theorem requestAction_requestOf (l : LinkNo) (code tag : Nat) (body : List Byte) :
    (requestAction (requestOf l code tag body)).isSome = true := by
  unfold requestOf
  split <;> rfl

/-- A completed frame that passes the checks of R172 does what its request's row does (log 5). -/
theorem completeFrame_request {l : LinkNo} {bytes : List Byte} {i : Instr} (h : frameRequest l bytes = some i)
    (s : State) : completeFrame l bytes s = exec i s := by
  have hrequest : (requestAction i).isSome = true := by
    unfold frameRequest at h
    split at h
    · exact Option.some.inj h ▸ requestAction_requestOf ..
    · cases h
  obtain ⟨⟨l', code, tag, act⟩, haction⟩ := Option.isSome_iff_exists.mp hrequest
  rw [completeFrame, h, exec_requestAction haction]
  exact runRequest_requestAction haction s

/-- One that fails them is discarded (R172). -/
theorem completeFrame_bad {l : LinkNo} {bytes : List Byte} (h : frameGood bytes = false) (s : State) :
    completeFrame l bytes s = .next (s.idleReceiver l) := by
  simp [completeFrame, frameRequest, h]

/-! ### One byte taken by a receiver -/

/-- The byte joins a partial frame that it does not end: it comes before the length byte, is a length in range, or comes
before the last byte (R172). -/
abbrev Continues (before : List Byte) (b : Byte) : Prop :=
  before.length < 3 ∨ (before.length = 3 ∧ b.toNat ≤ 240) ∨
    (4 ≤ before.length ∧ (before.getD 3 0#8).toNat ≤ 240 ∧ before.length < 5 + (before.getD 3 0#8).toNat)

theorem bodyNum_snoc_here {before : List Byte} (h : before.length = 3) (b : Byte) :
    bodyNum (before ++ [b]) 3 1 = b.toNat := by
  rw [bodyNum_one, List.getD_append_right _ _ _ _ (Nat.le_of_eq h), h]
  rfl

theorem bodyNum_snoc_before {before : List Byte} (h : 4 ≤ before.length) (b : Byte) :
    bodyNum (before ++ [b]) 3 1 = (before.getD 3 0#8).toNat := by
  rw [bodyNum_one, List.getD_append _ _ _ _ h]

section Receiver
variable {l : LinkNo} {b : Byte} {s : State}

theorem receiveByte_idle (h : (s.link l).receiver = .idle) :
    receiveByte l b s = .next (if b = 0xD3#8 then s.hold l [b] else s) := by
  rw [receiveByte, h]
  rfl

variable {before : List Byte} {t : Nat} (h : (s.link l).receiver = .receiving before t)
include h

theorem receiveByte_receiving : receiveByte l b s =
    if tooLong (before ++ [b]) then .next (s.idleReceiver l)
    else if frameComplete (before ++ [b]) then completeFrame l (before ++ [b]) s
    else .next (s.hold l (before ++ [b])) := by
  rw [receiveByte, h]

/-- A length above 240 ends the frame at once. -/
theorem receiveByte_tooLong (hlen : before.length = 3) (hb : 240 < b.toNat) :
    receiveByte l b s = .next (s.idleReceiver l) := by
  have hlong : tooLong (before ++ [b]) = true := by
    simp [tooLong, bodyNum_snoc_here hlen, hlen, hb, Config.bodyTop]
  rw [receiveByte_receiving h, if_pos hlong]

theorem receiveByte_continues (hb : Continues before b) :
    receiveByte l b s = .next (s.hold l (before ++ [b])) := by
  have hopen : tooLong (before ++ [b]) = false ∧ frameComplete (before ++ [b]) = false := by
    rcases hb with hlen | ⟨hlen, hb⟩ | ⟨hlen, htop, hend⟩
    · simp [tooLong, frameComplete, Nat.not_le_of_lt hlen]
    · simp [tooLong, frameComplete, bodyNum_snoc_here hlen, hlen, Config.bodyTop, hb]
      omega
    · simp [tooLong, frameComplete, bodyNum_snoc_before hlen, Config.bodyTop, -List.getD_eq_getElem?_getD]
      omega
  rw [receiveByte_receiving h, hopen.1, hopen.2]
  rfl

/-- The byte that the length byte makes the last completes the frame. -/
theorem receiveByte_completes (hlen : 4 ≤ before.length) (htop : (before.getD 3 0#8).toNat ≤ 240)
    (hend : before.length = 5 + (before.getD 3 0#8).toNat) :
    receiveByte l b s = completeFrame l (before ++ [b]) s := by
  have hshort : tooLong (before ++ [b]) = false := by
    simp [tooLong, bodyNum_snoc_before hlen, Config.bodyTop, htop, -List.getD_eq_getElem?_getD]
  have hcomplete : frameComplete (before ++ [b]) = true := by
    simp [frameComplete, bodyNum_snoc_before hlen, -List.getD_eq_getElem?_getD]
    omega
  rw [receiveByte_receiving h, hshort, hcomplete]
  rfl

end Receiver

/-! ### One byte at a link -/

/-- A UART link of a part that runs takes a byte unless its driver is enabled (R176). -/
theorem exec_byteReceived_uart {l : LinkNo} {s : State} (hl : l ≠ officeLink) (hrun : s.run = .running) (b : Byte) :
    exec (.byteReceived l b) s = if (s.link l).driver then .next s else receiveByte l b s := by
  have huart : isUart l = true := decide_eq_true hl
  show execByteReceived l b s = _
  rw [execByteReceived, if_pos hrun, if_pos huart]
  rfl

/-- The office link sends a byte out, then takes one in (R177; log 21). -/
theorem exec_byteReceived_office {s : State} (hrun : s.run = .running) (h : s.clearsNow = false) (b : Byte) :
    exec (.byteReceived officeLink b) s = receiveByte officeLink b s.clockOut := by
  show execByteReceived officeLink b s = _
  rw [execByteReceived, if_pos hrun, if_neg (by decide), h]
  rfl

/-- Settles O10: a UART link's byte goes to its receiver, which goes by its length and that of the bytes before. -/
theorem oneByteAtAUartReceiver : Obligations.OneByteAtAUartReceiver := by
  intro l b s hl hrun
  rw [exec_byteReceived_uart hl hrun]
  refine ⟨fun hd => by simp [hd], fun hd hr => ?_, fun before t hd hr => ?_⟩ <;>
    simp only [hd, Bool.false_eq_true, if_false]
  · exact receiveByte_idle hr
  · refine ⟨receiveByte_tooLong hr, receiveByte_continues hr, fun hlen htop hend => ?_⟩
    rw [receiveByte_completes hr hlen htop hend]
    exact ⟨fun hbad => completeFrame_bad hbad s, fun i hi => completeFrame_request hi s⟩

/-! ### The byte clocked out of the office link (R174, R177) -/

section Clock
variable {s : State} {a : OutAnswer} {as : List OutAnswer}

theorem State.clockOut_nil (h : (s.link officeLink).output = []) : s.clockOut = s.clockIdle := by
  rw [State.clockOut, h]

/-- With no filler byte open the first answer's next byte goes out. -/
theorem State.clockOut_cons (h : (s.link officeLink).output = a :: as) (hfiller : s.office.fillerOpen = false) :
    s.clockOut = s.clockByte a := by
  simp [State.clockOut, h, State.fillerNow, State.useFiller, hfiller]

theorem Endpoint.beginSend_cons {e : Endpoint} (h : e.output = a :: as) (lane : Bool) :
    e.beginSend lane = { e with output := { a with begun := true } :: as, driver := lane } := by
  simp [Endpoint.beginSend, h, beginHead]

theorem Endpoint.officeSent_cons {e : Endpoint} (h : e.output = a :: as) :
    e.officeSent = { e with output := as, slot := if a.isBusy then e.slot else none } := by
  rw [Endpoint.officeSent, h]
  rfl

theorem State.modLink_beginSend {l : LinkNo} (h : (s.link l).output = a :: as) (lane : Bool) :
    s.modLink l (Endpoint.beginSend lane) =
      s.modLink l fun e => { e with output := { a with begun := true } :: as, driver := lane } :=
  congrArg (s.setLink l) (Endpoint.beginSend_cons h lane)

theorem State.modLink_officeSent (h : (s.link officeLink).output = a :: as) :
    s.modLink officeLink Endpoint.officeSent =
      s.modLink officeLink fun e => { e with output := as, slot := if a.isBusy then e.slot else none } :=
  congrArg (s.setLink officeLink) (Endpoint.officeSent_cons h)

/-- The first answer has left the office link (R174). -/
theorem State.officeSent_cons (h : (s.link officeLink).output = a :: as) (ha : a.answer ≠ .cleared) :
    s.officeSent a =
      { s.modLink officeLink fun e =>
          { e with output := as, slot := if a.isBusy then e.slot else none } with
        office := { readPos := 0, fillerOpen := false, dataOut := a.bytes.getLastD 0#8 } } := by
  rw [State.officeSent, if_neg ha, State.modLink_officeSent h]

/-- A byte of the first answer that is not its last. -/
theorem State.clockByte_next (h : (s.link officeLink).output = a :: as) (hfiller : s.office.fillerOpen = false)
    (hpos : s.office.readPos + 1 < a.bytes.length) :
    s.clockByte a =
      { s.modLink officeLink fun e => { e with output := { a with begun := true } :: as, driver := false } with
        office := { readPos := s.office.readPos + 1, fillerOpen := false
                    dataOut := a.bytes.getD s.office.readPos 0#8 } } := by
  rw [State.clockByte, if_pos hpos, State.modLink_beginSend h]
  dsimp only
  rw [hfiller]

/-- The byte clocked out leaves the clock and the office link's receiver, if it takes no start. -/
theorem State.clockOut_receives
    (h : ∀ a ∈ (s.link officeLink).output.head?, a.answer = .cleared → s.office.readPos + 1 < a.bytes.length) :
    s.clearsNow = false ∧ s.clockOut.clock = s.clock ∧
      (s.clockOut.link officeLink).receiver = (s.link officeLink).receiver := by
  obtain ⟨hclears, output, slot, driver, hout⟩ := s.clockOut_eq h
  refine ⟨hclears, by rw [hout]; rfl, ?_⟩
  rw [hout]
  simp [State.link]

end Clock

/-- Settles O13: the byte goes out by `clockByte`; the receiver that then takes one in stands as it did. -/
theorem officeAnswersAreClockedOut : Obligations.OfficeAnswersAreClockedOut := by
  refine ⟨fun s => ⟨State.clockOut_nil, fun a as hout hfiller => ⟨fun hpos => ?_, fun hlast ha => ?_⟩⟩,
    fun b s hrun hcleared => ?_⟩
  · rw [State.clockOut_cons hout hfiller, State.clockByte_next hout hfiller hpos]
  · rw [State.clockOut_cons hout hfiller, State.clockByte, if_neg (Nat.not_lt_of_le hlast),
      State.officeSent_cons hout ha]
  · intro out idle holding run
    obtain ⟨hclears, hclock, hreceiver⟩ := State.clockOut_receives hcleared
    have hrunning : run = receiveByte officeLink b out := exec_byteReceived_office hrun hclears b
    have hholding : ∀ bytes, holding bytes = out.hold officeLink bytes := fun bytes => by
      simp only [holding, ← hclock]
      rfl
    simp only [hrunning, hholding, ← hreceiver]
    refine ⟨receiveByte_idle, fun before since hr => ⟨receiveByte_tooLong hr, receiveByte_continues hr,
      fun hlen htop hend => ?_⟩⟩
    rw [receiveByte_completes hr hlen htop hend]
    exact ⟨fun hbad => completeFrame_bad hbad out, fun i hi => completeFrame_request hi out⟩

end Sys2Proof.Machine

/-! ## The bytes of a frame and the request they carry (R172, R173, R177) -/

namespace Sys2Proof.Machine

/-! ### Requests after a partial frame -/

theorem requestAction_of_requestParts {i : Instr} {l : LinkNo} {code tag : Nat} {body : List Byte}
    (h : requestParts i = some (l, code, tag, body)) : ∃ act, requestAction i = some (l, code, tag, act) := by
  cases i <;> cases h <;> exact ⟨_, rfl⟩

@[simp] theorem State.hold_link (s : State) (l k : LinkNo) (bytes : List Byte) :
    (s.hold l bytes).link k =
      if k = l then { s.link l with receiver := .receiving bytes s.clock } else s.link k := s.modLink_link l k _

@[simp] theorem State.hold_hold (s : State) (l : LinkNo) (bytes more : List Byte) :
    (s.hold l bytes).hold l more = s.hold l more := by
  simp [State.hold, State.modLink, State.setLink, State.link]

@[simp] theorem State.hold_idleReceiver (s : State) (l : LinkNo) (bytes : List Byte) :
    (s.hold l bytes).idleReceiver l = s.idleReceiver l := by
  simp [State.hold, State.idleReceiver, State.modLink, State.setLink, State.link]

/-- A taken frame leaves the receiver IDLE, whatever bytes of it the receiver held. -/
theorem takeFrame_hold {s : State} {l : LinkNo} (hrun : s.run = .running) (hdriver : (s.link l).driver = false)
    (code tag : Nat) (act : State → State × Answer) (bytes : List Byte) :
    takeFrame l code tag act (s.hold l bytes) = takeFrame l code tag act s := by
  have hrunHeld : (s.hold l bytes).run = .running := hrun
  have hdeafHeld : (s.hold l bytes).deaf l = false := by simp [State.deaf, hdriver]
  have hdeaf : s.deaf l = false := hdriver
  rw [takeFrame, takeFrame, whenRunning_running hrun, whenRunning_running hrunHeld, hdeafHeld, hdeaf,
    State.acceptFrame, State.hold_idleReceiver]
  rfl

/-! ### A link that does nothing but take bytes -/

/-- The link of a part that runs takes each byte and sends none: its driver is disabled and, on the office link, nothing
is there to read and the byte last sent is 0x00 (R176, R177). -/
structure Listens (l : LinkNo) (s : State) : Prop where
  run : s.run = .running
  driver : (s.link l).driver = false
  silent : l = officeLink → (s.link officeLink).output = [] ∧ s.office.dataOut = 0#8

section Listens
variable {l : LinkNo} {s : State}

theorem exec_byteReceived_noAnswer (hrun : s.run = .running) (h : (s.link officeLink).output = []) (b : Byte) :
    exec (.byteReceived officeLink b) s = receiveByte officeLink b s.clockIdle := by
  have hclears : s.clearsNow = false := by rw [State.clearsNow, h]
  rw [exec_byteReceived_office hrun hclears, State.clockOut_nil h]

theorem Listens.receives (h : Listens l s) (b : Byte) : exec (.byteReceived l b) s = receiveByte l b s := by
  by_cases hl : l = officeLink
  · obtain ⟨hout, hdata⟩ := h.silent hl
    have hidle : s.clockIdle = s := by
      rw [State.clockIdle, ← hdata]
    subst hl
    rw [exec_byteReceived_noAnswer h.run hout, hidle]
  · rw [exec_byteReceived_uart hl h.run, h.driver]
    rfl

theorem Listens.hold (h : Listens l s) (bytes : List Byte) : Listens l (s.hold l bytes) where
  run := h.run
  driver := by simpa using h.driver
  silent := fun hl => ⟨by simpa [hl] using (h.silent hl).1, (h.silent hl).2⟩

end Listens

/-! ### The bytes of a frame, one after the other -/

section Frame
variable {l : LinkNo} {s : State} {code tag : Nat} {body before rest : List Byte} {b : Byte}

/-- The fourth byte of a frame is its length. -/
theorem frameOf_lengthByte {marker : Byte} (hbody : body.length ≤ 240) :
    ((frameOf marker code tag body).getD 3 0#8).toNat = body.length :=
  Nat.mod_eq_of_lt (by omega)

/-- The length byte of a frame among the bytes taken so far. -/
theorem lengthByte_taken (hbody : body.length ≤ 240) (h : frameOf requestMarker code tag body = before ++ b :: rest)
    (hlen : 4 ≤ before.length) : (before.getD 3 0#8).toNat = body.length := by
  rw [← frameOf_lengthByte (marker := requestMarker) (code := code) (tag := tag) hbody, h,
    List.getD_append _ _ _ _ hlen]

/-- A frame's byte behind which another comes does not end it. -/
theorem continues_of_frame (hbody : body.length ≤ 240)
    (h : frameOf requestMarker code tag body = before ++ b :: rest) (hrest : rest ≠ []) : Continues before b := by
  have hlength : 6 + body.length = before.length + (rest.length + 1) := by
    rw [← frameOf_length requestMarker code tag body, h, List.length_append, List.length_cons]
  have hpos := List.length_pos_iff.mpr hrest
  rcases Nat.lt_trichotomy before.length 3 with hlt | heq | hgt
  · exact .inl hlt
  · have hb : b.toNat = body.length := by
      rw [← frameOf_lengthByte (marker := requestMarker) (code := code) (tag := tag) hbody, h,
        List.getD_append_right _ _ _ _ (Nat.le_of_eq heq), heq]
      rfl
    exact .inr (.inl ⟨heq, hb ▸ hbody⟩)
  · have hlen := lengthByte_taken hbody h hgt
    exact .inr (.inr ⟨hgt, by omega, by omega⟩)

/-- The bytes of a frame from one on take its request, the receiver holding those before. -/
theorem runAll_restOfFrame (hs : Listens l s) (hbody : body.length ≤ 240) {i : Instr}
    {act : State → State × Answer} {c t : Nat} (hact : requestAction i = some (l, c, t, act))
    (hi : frameRequest l (frameOf requestMarker code tag body) = some i)
    (h : frameOf requestMarker code tag body = before ++ b :: rest) (hbefore : before ≠ []) :
    runAll ((b :: rest).map (Instr.byteReceived l)) (s.hold l before) = exec i s := by
  have hreceiver : ∀ bytes, ((s.hold l bytes).link l).receiver = .receiving bytes s.clock := fun bytes => by simp
  induction rest generalizing before b with
  | nil =>
    have hlength : 6 + body.length = before.length + 1 := by
      rw [← frameOf_length requestMarker code tag body, h, List.length_append, List.length_singleton]
    have hlen := lengthByte_taken hbody h (by omega)
    have hlast : exec (.byteReceived l b) (s.hold l before) = exec i s := by
      rw [(hs.hold before).receives,
        receiveByte_completes (hreceiver before) (by omega) (by omega) (by omega),
        completeFrame_request (h ▸ hi), exec_requestAction hact, exec_requestAction hact,
        takeFrame_hold hs.run hs.driver]
    show runAll [.byteReceived l b] _ = _
    rw [runAll, hlast]
    cases exec i s <;> rfl
  | cons d ds ih =>
    have hnext : exec (.byteReceived l b) (s.hold l before) = .next (s.hold l (before ++ [b])) := by
      rw [(hs.hold before).receives,
        receiveByte_continues (hreceiver before) (continues_of_frame hbody h (List.cons_ne_nil d ds)),
        State.hold_hold]
    rw [List.map_cons, runAll, hnext]
    exact ih (by simpa using h) (by simp)

/-- The bytes of a frame take its request (log 5). -/
theorem runAll_frame (hs : Listens l s) (hidle : (s.link l).receiver = .idle) (hbody : body.length ≤ 240) {i : Instr}
    {act : State → State × Answer} {c t : Nat} (hact : requestAction i = some (l, c, t, act))
    (hi : frameRequest l (frameOf requestMarker code tag body) = some i) :
    runAll ((frameOf requestMarker code tag body).map (Instr.byteReceived l)) s = exec i s := by
  obtain ⟨b, rest, hframe⟩ : ∃ b rest, frameOf requestMarker code tag body = requestMarker :: b :: rest := ⟨_, _, rfl⟩
  have hmarker : exec (.byteReceived l requestMarker) s = .next (s.hold l [requestMarker]) :=
    (hs.receives _).trans (receiveByte_idle hidle)
  rw [hframe, List.map_cons, runAll, hmarker]
  exact runAll_restOfFrame hs hbody hact hi hframe (List.cons_ne_nil _ _)

end Frame

/-- Settles O9: byte by byte the frame is held by the receiver, and its last byte takes the request; on the office link
the first byte clocks 0x00 out, and the others again. -/
theorem bytesOfAFrameTakeItsRequest : Obligations.BytesOfAFrameTakeItsRequest := by
  intro i l bs s hwf hbs hrun hdriver hidle
  obtain ⟨code, tag, body, act, rfl, hbody, hact, hi⟩ : ∃ code tag body act,
      bs = frameOf requestMarker code tag body ∧ body.length ≤ 240 ∧ requestAction i = some (l, code, tag, act) ∧
        frameRequest l (frameOf requestMarker code tag body) = some i := by
    rcases hbs with hframe | ⟨code, tag, body, rfl, hbody, rfl⟩
    · obtain ⟨⟨l', code, tag, body⟩, hparts, heq⟩ := Option.map_eq_some_iff.mp hframe
      cases heq
      obtain ⟨act, hact⟩ := requestAction_of_requestParts hparts
      obtain ⟨-, -, hbody, -⟩ := requestParts_fits hwf hparts
      exact ⟨code, tag, body, act, rfl, hbody, hact, requestFrameIsReadBack.1 i l _ hwf hframe⟩
    · simp only [Instr.wf, fits8, Bool.and_eq_true, decide_eq_true_eq, Bool.not_eq_true'] at hwf
      obtain ⟨⟨htag, hcode⟩, hunknown⟩ := hwf
      exact ⟨code, tag, body, _, rfl, hbody, rfl,
        requestFrameIsReadBack.2 l code tag body hcode htag hunknown hbody⟩
  refine ⟨fun hl => runAll_frame ⟨hrun, hdriver, fun h => absurd h hl⟩ hidle hbody hact hi, fun hl hout => ?_⟩
  subst hl
  have hlistens : Listens officeLink s.clockIdle := ⟨hrun, hdriver, fun _ => ⟨hout, rfl⟩⟩
  have hfirst : ∀ b, exec (.byteReceived officeLink b) s = exec (.byteReceived officeLink b) s.clockIdle := fun b => by
    rw [exec_byteReceived_noAnswer hrun hout, hlistens.receives]
  have hwhole := runAll_frame hlistens hidle hbody hact hi
  rw [frameOf_eq, List.map_cons, runAll] at hwhole ⊢
  rw [hfirst]
  exact hwhole

/-! ## Frames whose request is not acted on (R173, R174, R176, R178) -/

/-- Settles O5: a taken frame finds the slot IN PROGRESS, and an enabled driver keeps the frame out. -/
theorem requestDuringAnotherIsBusy : Obligations.RequestDuringAnotherIsBusy := by
  intro i l code tag body s hparts hrun
  obtain ⟨act, hact⟩ := requestAction_of_requestParts hparts
  rw [exec_requestAction hact]
  refine ⟨fun now hdriver hslot => ?_, fun hdriver => ?_⟩
  · rcases takeFrame_cases l code tag act s with ⟨h | h, -⟩ | ⟨-, -, ⟨now', h, e⟩ | ⟨h, -⟩⟩
    · exact absurd hrun h
    · exact absurd (hdriver.symm.trans h) Bool.false_ne_true
    · cases hslot.symm.trans h
      exact e
    · cases hslot.symm.trans h
  · rcases takeFrame_cases l code tag act s with ⟨-, e⟩ | ⟨-, h, -⟩
    · exact e
    · exact absurd (h.symm.trans hdriver) Bool.false_ne_true

theorem roleOf_eq_lane (l : LinkNo) : roleOf l = .lane ↔ l.val < 6 := by
  unfold roleOf
  split_ifs <;> simp [*]

theorem roleOf_eq_office (l : LinkNo) : roleOf l = .office ↔ l.val = 6 := by
  unfold roleOf
  split_ifs
  · simp; omega
  · simp [*]
  · simp [*]

/-- A code of R178 on a link of another role than its own. -/
theorem roleMay_of_wrongRole {code : Nat} {l : LinkNo} (hcode : isRequestCode code = true) (h : wrongRole code l) :
    roleMay code (roleOf l) = false := by
  have hrange : (1 ≤ code ∧ code ≤ 8) ∨ (16 ≤ code ∧ code ≤ 32) ∨ (48 ≤ code ∧ code ≤ 56) := by
    simpa [isRequestCode, or_assoc] using hcode
  rcases h with ⟨hc, hl⟩ | ⟨hlow, hc, hl⟩ | ⟨hlow, hc, hl⟩ | ⟨hlow, hl⟩
  · rw [roleMay, if_pos hc, beq_eq_false_iff_ne, ne_eq, roleOf_eq_lane]
    omega
  · rw [roleMay, if_neg (by omega), if_neg (by omega), if_pos hc, bne_eq_false_iff_eq, roleOf_eq_lane]
    exact hl
  · rw [roleMay, if_neg (by omega), if_neg (by omega), if_neg (by omega), if_pos hc, beq_eq_false_iff_ne, ne_eq,
      roleOf_eq_office]
    exact hl
  · rw [roleMay_high (by omega), beq_eq_false_iff_ne]
    exact roleOf_ne_console fun h => hl (congrArg Fin.val h)

/-- A frame with a code that R178 does not list. -/
theorem takeFrame_unknown {l : LinkNo} {code tag : Nat} {act : State → State × Answer} {s : State} (ht : Takes s l)
    (hcode : bodyLength code = none) :
    takeFrame l code tag act s = .next (s.answered l code tag .unknownRequest) := by
  obtain ⟨hrun, hdriver, hslot⟩ := ht
  rcases takeFrame_cases l code tag act s with
    ⟨h | h, -⟩ | ⟨-, -, ⟨now, h, -⟩ | ⟨-, ⟨-, e⟩ | ⟨h, -⟩ | ⟨h, -⟩⟩⟩
  · exact absurd hrun h
  · exact absurd (hdriver.symm.trans h) Bool.false_ne_true
  · cases hslot.symm.trans h
  · exact e
  · exact absurd hcode h
  · exact absurd hcode h

/-- Settles O6: R178's codes and roles decide before the request is acted on. -/
theorem wrongRoleAndUnknownCodeAreAnswered : Obligations.WrongRoleAndUnknownCodeAreAnswered := by
  refine ⟨fun i l code tag body s hparts hcode hrole ht => ?_, fun l tag code s hcode ht =>
    takeFrame_unknown ht (bodyLength_eq_none hcode)⟩
  obtain ⟨act, hact⟩ := requestAction_of_requestParts hparts
  exact exec_refused hact ht ((bodyLength_isSome code).trans hcode) (roleMay_of_wrongRole hcode hrole)

/-! ## Partial frames end and answers leave (R172, R174, R176, R177) -/

/-- A link whose driver is enabled and the office link have no byte errors (R172, R176). -/
theorem exec_byteError {l : LinkNo} {s : State} (hrun : s.run = .running) :
    exec (.byteError l) s = .next (if l = officeLink ∨ (s.link l).driver then s else s.idleReceiver l) := by
  show execByteError l s = _
  rw [execByteError, whenRunning_running hrun]
  by_cases hl : l = officeLink
  · simp [hl, isUart]
  · cases hd : (s.link l).driver <;> simp [hl, hd, isUart, State.deaf]

section Gap
variable {l : LinkNo} {s : State}

theorem exec_frameGapExpiry_receiving (hrun : s.run = .running) {bytes : List Byte} {since : Nat}
    (hr : (s.link l).receiver = .receiving bytes since) :
    exec (.frameGapExpiry l) s = .next (if isUart l then (s.waitUntil (since + 10)).idleReceiver l else s) := by
  show execFrameGapExpiry l s = _
  rw [execFrameGapExpiry, whenRunning_running hrun, hr]
  rfl

theorem exec_frameGapExpiry_idle (hrun : s.run = .running) (hr : (s.link l).receiver = .idle) :
    exec (.frameGapExpiry l) s = .next s := by
  show execFrameGapExpiry l s = _
  rw [execFrameGapExpiry, whenRunning_running hrun, hr]

end Gap

/-- Settles O11: each end makes the receiver IDLE, where the link's kind and driver let it come. -/
theorem partialFramesEnd : Obligations.PartialFramesEnd := by
  intro l s hrun
  refine ⟨whenRunning_running hrun fun s => if s.deaf l then s else s.idleReceiver l, exec_byteError hrun,
    whenRunning_running hrun fun s => s.idleReceiver officeLink, fun bytes since hr hl => ?_, fun h => ?_⟩
  · rw [exec_frameGapExpiry_receiving hrun hr, if_pos (show isUart l = true from decide_eq_true hl)]
    rfl
  · cases hr : (s.link l).receiver with
    | idle => exact exec_frameGapExpiry_idle hrun hr
    | receiving bytes since =>
      have hl : l = officeLink := h.resolve_left fun h => by cases hr.symm.trans h
      rw [exec_frameGapExpiry_receiving hrun hr, if_neg (by simp [isUart, hl])]

theorem isLaneLink_eq (l : LinkNo) : isLaneLink l = decide (l.val < 6) := by
  unfold isLaneLink laneOfLink laneOf
  split <;> simp [*]

/-- The next answer begins in the event that ends the one before (log 18). -/
theorem Endpoint.uartSent_cons {e : Endpoint} {a : OutAnswer} {as : List OutAnswer} (h : e.output = a :: as)
    (l : LinkNo) :
    e.uartSent (isLaneLink l) =
      { e with
        output := as.modifyHead fun b => { b with begun := true }
        slot := if a.isBusy then e.slot else none
        driver := Decidable.decide (l.val < 6 ∧ as ≠ []) } := by
  rw [Endpoint.uartSent, h, isLaneLink_eq]
  cases as with
  | nil => simp [Endpoint.beginSend, slotAfter]
  | cons b bs => simp [Endpoint.beginSend, beginHead, slotAfter]

section Answers
variable {l : LinkNo} {s : State}

theorem exec_answerEvents_nil (hrun : s.run = .running) (h : (s.link l).output = []) :
    exec (.answerSendBegin l) s = .next s ∧ exec (.answerSent l) s = .next s := by
  constructor
  · show execAnswerSendBegin l s = _
    rw [execAnswerSendBegin, whenRunning_running hrun, h]
  · show execAnswerSent l s = _
    rw [execAnswerSent, whenRunning_running hrun, h]

variable {a : OutAnswer} {as : List OutAnswer}

theorem exec_answerSendBegin_cons (hrun : s.run = .running) (h : (s.link l).output = a :: as) (ha : a.begun = false) :
    exec (.answerSendBegin l) s =
      .next (if isUart l then s.modLink l (Endpoint.beginSend (isLaneLink l))
        else { s.modLink l (Endpoint.beginSend (isLaneLink l)) with
          office := { readPos := 1, fillerOpen := false, dataOut := answerMarker } }) := by
  show execAnswerSendBegin l s = _
  rw [execAnswerSendBegin, whenRunning_running hrun, h]
  simp [ha]

theorem exec_answerSendBegin_begun (hrun : s.run = .running) (h : (s.link l).output = a :: as) (ha : a.begun = true) :
    exec (.answerSendBegin l) s = .next s := by
  show execAnswerSendBegin l s = _
  rw [execAnswerSendBegin, whenRunning_running hrun, h]
  simp [ha]

theorem exec_answerSent_cons (hrun : s.run = .running) (h : (s.link l).output = a :: as) :
    exec (.answerSent l) s =
      .next (if isUart l then s.modLink l (Endpoint.uartSent (isLaneLink l)) else s.officeSent a) := by
  show execAnswerSent l s = _
  rw [execAnswerSent, whenRunning_running hrun, h]

end Answers

/-- Settles O12: the first answer begins by `beginSend` and leaves by `uartSent`. -/
theorem uartAnswersLeaveInOrder : Obligations.UartAnswersLeaveInOrder := by
  intro l s hl hrun
  have huart : isUart l = true := decide_eq_true hl
  refine ⟨exec_answerEvents_nil hrun, fun a as hout => ⟨fun ha => ?_, exec_answerSendBegin_begun hrun hout, ?_⟩⟩
  · rw [exec_answerSendBegin_cons hrun hout ha, if_pos huart, State.modLink_beginSend hout, isLaneLink_eq]
  · rw [exec_answerSent_cons hrun hout, if_pos huart]
    exact congrArg (fun e => Host.Outcome.next (s.setLink l e)) (Endpoint.uartSent_cons hout l)

/-- Settles O15: the first answer begins by `beginSend`, with its marker at the data output, and leaves by
`officeSent`. -/
theorem officeAnswerEvents : Obligations.OfficeAnswerEvents := by
  intro s hrun
  have hoffice : ¬ isUart officeLink = true := by decide
  refine ⟨exec_answerEvents_nil hrun, fun a as hout => ⟨fun ha => ?_, fun ha => ?_⟩⟩
  · rw [exec_answerSendBegin_cons hrun hout ha, if_neg hoffice, State.modLink_beginSend hout]
    rfl
  · rw [exec_answerSent_cons hrun hout, if_neg hoffice, State.officeSent_cons hout ha]

end Sys2Proof.Machine

/-! ## The segments of an answer (R170, R171, R175) -/

namespace Sys2Proof

/-! ### The CRC, bit by bit (R170) -/

/-- One bit of data enters the CRC register: the polynomial goes in when it differs from the register's top bit. -/
def crcStep (bit : Nat → Bool) (r : BitVec 16) (k : Nat) : BitVec 16 :=
  (r <<< 1) ^^^ (if r.msb ^^ bit k then 0x1021#16 else 0#16)

/-- Shifts of the register with a word added take the word's bits from the top, one by one. -/
theorem crcShift_iterate (n : Nat) (r y : BitVec 16) :
    crcShift^[n] (r ^^^ y) = (List.range n).foldl (crcStep y.getMsbD) r ^^^ (y <<< n) := by
  induction n with
  | zero => simp
  | succ n ih =>
    have hbit : (y <<< n).msb = y.getMsbD n := by simp [BitVec.msb, BitVec.getMsbD_shiftLeft]
    rw [Function.iterate_succ_apply', ih, crcShift_xor, hbit, List.range_succ, List.foldl_append,
      ← BitVec.shiftLeft_add]
    rfl

/-- A byte enters the CRC register by its bits, the most significant first. -/
theorem crcByte_eq (r : BitVec 16) (b : Byte) : crcByte r b = (List.range 8).foldl (crcStep b.getMsbD) r := by
  have hgone : (b.setWidth 16 <<< 8) <<< 8 = 0#16 := by
    rw [← BitVec.shiftLeft_add]
    exact BitVec.shiftLeft_eq_zero (Nat.le_refl 16)
  have hbits : ∀ k ∈ List.range 8, ∀ r, crcStep (b.setWidth 16 <<< 8).getMsbD r k = crcStep b.getMsbD r k := by
    intro k hk r
    have hlt : k < 8 := List.mem_range.mp hk
    have hbit : (b.setWidth 16 <<< 8).getMsbD k = b.getMsbD k := by
      simp [BitVec.getMsbD_shiftLeft, BitVec.getMsbD_setWidth]
    rw [crcStep, crcStep, hbit]
  calc crcByte r b = crcShift^[8] (r ^^^ (b.setWidth 16 <<< 8)) := rfl
    _ = (List.range 8).foldl (crcStep (b.setWidth 16 <<< 8).getMsbD) r := by
      rw [crcShift_iterate, hgone, BitVec.xor_zero]
    _ = (List.range 8).foldl (crcStep b.getMsbD) r := List.foldl_ext _ _ _ fun r k hk => hbits k hk r

theorem crc_append_byte (bs : List Byte) (b : Byte) :
    crc (bs ++ [b]) = ((List.range 8).foldl (crcStep b.getMsbD) (BitVec.ofNat 16 (crc bs))).toNat := by
  rw [crc, List.foldl_append, crc, BitVec.ofNat_toNat, BitVec.setWidth_eq, ← crcByte_eq]
  rfl

end Sys2Proof

namespace Sys2Proof.Machine

/-! ### One segment (R171) -/

/-- The frame of one segment of an answer. -/
def segment (code tag status index : Nat) (last : Bool) (d : List Byte) : List Byte :=
  frameOf answerMarker code tag (be 1 status ++ segmentByte index last ++ d)

section Segment
variable (code tag status index : Nat) (last : Bool) (d : List Byte)

/-- The bytes of a segment under its CRC. -/
def segmentCovered : List Byte :=
  [BitVec.ofNat 8 code, BitVec.ofNat 8 tag, BitVec.ofNat 8 (d.length + 2), BitVec.ofNat 8 status,
    BitVec.ofNat 8 (index + if last then 128 else 0)] ++ d

theorem segment_eq : segment code tag status index last d =
    answerMarker :: (segmentCovered code tag status index last d ++
      be 2 (crc (segmentCovered code tag status index last d))) := rfl

theorem segment_length : (segment code tag status index last d).length = d.length + 8 := by
  simp [segment_eq, segmentCovered]

/-- A segment's data stands between the six bytes of its header and its CRC. -/
theorem segment_data : ((segment code tag status index last d).drop 6).take
    ((segment code tag status index last d).length - 8) = d := by
  rw [segment_length, Nat.add_sub_cancel]
  exact List.take_left

theorem segment_index : ((segment code tag status index last d).drop 4).take 2 =
    [BitVec.ofNat 8 status, BitVec.ofNat 8 (index + if last then 128 else 0)] := rfl

theorem segment_crc :
    (segment code tag status index last d).drop ((segment code tag status index last d).length - 2) =
      be 2 (crc (((segment code tag status index last d).drop 1).take
        ((segment code tag status index last d).length - 3))) := by
  have hcovered : (segmentCovered code tag status index last d).length = d.length + 5 := rfl
  have hcrc : (segment code tag status index last d).drop (d.length + 6) =
      be 2 (crc (segmentCovered code tag status index last d)) := by
    rw [segment_eq, List.drop_succ_cons, ← hcovered, List.drop_left]
  have hunder : ((segment code tag status index last d).drop 1).take (d.length + 5) =
      segmentCovered code tag status index last d := by
    rw [segment_eq, List.drop_one, List.tail_cons, ← hcovered, List.take_left]
  rw [segment_length]
  exact hcrc.trans (by rw [← hunder]; rfl)

end Segment

/-! ### All segments of an answer (R175) -/

section Segments
variable {code tag status : Nat} {d : List Byte}

theorem segmentsFrom_short (h : d.length ≤ 238) (fuel index : Nat) :
    segmentsFrom code tag status fuel index d = [segment code tag status index true d] := by
  cases fuel with
  | zero => rfl
  | succ fuel => exact if_pos h

theorem segmentsFrom_long (h : 238 < d.length) (fuel index : Nat) :
    segmentsFrom code tag status (fuel + 1) index d =
      segment code tag status index false (d.take 238) :: segmentsFrom code tag status fuel (index + 1) (d.drop 238) :=
  if_neg (Nat.not_le_of_lt h)

theorem segmentsFrom_ne_nil (fuel index : Nat) (d : List Byte) : segmentsFrom code tag status fuel index d ≠ [] := by
  unfold segmentsFrom
  split
  · simp
  · split <;> simp

/-- The segments carry the data, in its order. -/
theorem segmentsFrom_data (fuel index : Nat) (d : List Byte) :
    ((segmentsFrom code tag status fuel index d).flatMap fun f => (f.drop 6).take (f.length - 8)) = d := by
  induction fuel generalizing index d with
  | zero =>
    show [segment code tag status index true d].flatMap _ = d
    rw [List.flatMap_singleton, segment_data]
  | succ fuel ih =>
    rcases Nat.lt_or_ge 238 d.length with h | h
    · rw [segmentsFrom_long h, List.flatMap_cons, ih, segment_data, List.take_append_drop]
    · rw [segmentsFrom_short h, List.flatMap_singleton, segment_data]

/-- What the `k`-th of `n` segments from an index on is: full unless it is the last, which alone has bit 7 (R171,
R175). -/
def SegmentAt (code tag status index n k : Nat) (f : List Byte) : Prop :=
  ∃ part : List Byte, part.length ≤ 238 ∧ (k + 1 < n → part.length = 238) ∧
    f = segment code tag status (index + k) (k + 1 = n) part

theorem segmentAt_of_short (h : d.length ≤ 238) {fuel index k : Nat} {f : List Byte}
    (hf : (segmentsFrom code tag status fuel index d)[k]? = some f) :
    SegmentAt code tag status index (segmentsFrom code tag status fuel index d).length k f := by
  rw [segmentsFrom_short h] at hf ⊢
  obtain ⟨rfl, rfl⟩ : k = 0 ∧ segment code tag status index true d = f := by
    simpa [List.getElem?_singleton] using hf
  exact ⟨d, h, by simp, by simp⟩

theorem segmentsFrom_get {fuel index k : Nat} {f : List Byte} (hfuel : d.length ≤ fuel)
    (hf : (segmentsFrom code tag status fuel index d)[k]? = some f) :
    SegmentAt code tag status index (segmentsFrom code tag status fuel index d).length k f := by
  induction fuel generalizing index d k with
  | zero => exact segmentAt_of_short (by omega) hf
  | succ fuel ih =>
    rcases Nat.lt_or_ge 238 d.length with h | h
    · rw [segmentsFrom_long h] at hf ⊢
      cases k with
      | zero =>
        have hrest := List.length_pos_iff.mpr (segmentsFrom_ne_nil (code := code) (tag := tag) (status := status) fuel
          (index + 1) (d.drop 238))
        have hmore : ¬ 0 + 1 = (segmentsFrom code tag status fuel (index + 1) (d.drop 238)).length + 1 := by omega
        refine ⟨d.take 238, by simp, fun _ => by simp; omega, ?_⟩
        rw [List.length_cons, decide_eq_false hmore]
        exact (Option.some.inj hf).symm
      | succ k =>
        obtain ⟨part, hpart, hfull, heq⟩ := ih (d := d.drop 238) (index := index + 1) (by simp; omega) hf
        refine ⟨part, hpart, fun hk => hfull (by simpa using hk), ?_⟩
        rw [heq]
        simp [Nat.add_assoc, Nat.add_comm 1 k]
    · exact segmentAt_of_short h hf

end Segments

/-! ### READ LANE (R99, R175) -/

/-- The segments of READ LANE: one up to a queue of one credit, and two with a full one (log 16). -/
theorem frames_lane {a : OutAnswer} {r : LaneReport} (ha : a.answer = .lane r) (hq : r.queue.length ≤ 2) :
    a.frames.map List.length = if r.queue.length = 2 then [246, 24] else [164 + 49 * r.queue.length] := by
  have hdata : a.answer.data.length = 156 + 49 * r.queue.length := by
    rw [ha]
    exact r.bytes_length
  unfold OutAnswer.frames
  split
  · rename_i htwo
    obtain ⟨fuel, hfuel⟩ : ∃ fuel, a.answer.data.length = fuel + 1 := ⟨253, by omega⟩
    rw [hfuel, segmentsFrom_long (by omega), segmentsFrom_short (by rw [List.length_drop]; omega)]
    simp only [List.map_cons, List.map_nil, segment_length, List.length_take, List.length_drop, hdata, htwo]
    rfl
  · rw [segmentsFrom_short (by omega)]
    simp [segment_length, hdata]
    omega

/-- Settles O16: the CRC by `crcByte_eq`, and each frame of the answer is a `segment`. -/
theorem segmentsCarryTheWholeAnswer : Obligations.SegmentsCarryTheWholeAnswer := by
  refine ⟨⟨rfl, crc_append_byte⟩, fun a r => frames_lane, fun a =>
    ⟨segmentsFrom_data _ _ _, fun k f hf => ?_⟩⟩
  obtain ⟨part, hpart, hfull, hseg⟩ := segmentsFrom_get (Nat.le_refl _) hf
  have hlength : f.length = part.length + 8 := by rw [hseg, segment_length]
  refine ⟨by omega, fun hk => by rw [hlength, hfull hk], ?_, ?_, ?_, ?_⟩
  · rw [hlength, hseg]
    rfl
  · rw [hseg]
    exact segment_crc _ _ _ _ _ _
  · rw [hseg]
    rfl
  · rw [hseg, segment_index, Nat.zero_add]
    simp only [decide_eq_true_eq]
    rfl

/-! ## A filler byte (R177) -/

/-- A frame begins with its marker and has six bytes and more. -/
theorem OutAnswer.bytes_eq (a : OutAnswer) : ∃ b bs, a.bytes = answerMarker :: b :: bs := by
  have hne : a.frames ≠ [] := segmentsFrom_ne_nil _ _ _
  obtain ⟨f, fs, hframes⟩ := List.exists_cons_of_ne_nil hne
  obtain ⟨part, -, -, hseg⟩ := segmentsFrom_get (k := 0) (f := f) (Nat.le_refl _)
    (show a.frames[0]? = some f by rw [hframes]; rfl)
  rw [OutAnswer.bytes, hframes, hseg]
  exact ⟨_, _, rfl⟩

/-- Settles O14: the free value is used up, whichever byte it sends first. -/
theorem atMostOneFillerByte : Obligations.AtMostOneFillerByte := by
  intro b s a as hrun hreceiver hb hout hfiller hpos
  obtain ⟨c, cs, hbytes⟩ := a.bytes_eq
  have hmany : 0 + 1 < a.bytes.length := by simp [hbytes]
  obtain ⟨hclears, -, hidle⟩ := State.clockOut_receives (s := s) fun x hx _ => by
    rw [hout] at hx
    cases hx
    rwa [hpos]
  have hexec : exec (.byteReceived officeLink b) s = .next s.clockOut := by
    rw [exec_byteReceived_office hrun hclears, receiveByte_idle (hidle.trans hreceiver), if_neg hb]
  have huse : s.useFiller =
      { s with office := { s.office with fillerOpen := false }, freeCount := s.freeCount + 1 } := if_pos hfiller
  refine ⟨s.clockOut, hexec, ?_⟩
  cases hnow : s.fillerNow with
  | true =>
    have hclock : s.clockOut = s.useFiller.clockIdle := by
      rw [State.clockOut, hout]
      exact if_pos hnow
    rw [hclock, huse]
    exact ⟨rfl, .inl ⟨rfl, hpos, rfl⟩⟩
  | false =>
    have hclock : s.clockOut = s.useFiller.clockByte a := by
      rw [State.clockOut, hout]
      exact if_neg (by simp [hnow])
    have hposUsed : s.useFiller.office.readPos = 0 := by rw [huse]; exact hpos
    have hbyte := State.clockByte_next (s := s.useFiller) (a := a) (as := as) (by rw [huse]; exact hout)
      (by rw [huse]) (by rw [hposUsed]; exact hmany)
    rw [hclock, hbyte, hposUsed]
    refine ⟨rfl, .inr ⟨by rw [hbytes]; rfl, rfl, ?_⟩⟩
    simp [State.link]

end Sys2Proof.Machine

/-! ## The commands that wait (R179)

Every operation, action and event leaves the queue of waiting commands as it is; a command's own result is always a next
state. -/

namespace Sys2Proof.Machine

/-! ### Operations -/

section Operations
variable (s : State) (i : LaneNo)

@[simp] theorem State.raiseAt_pending (k : LaneEvent) : (s.raiseAt k i).pending = s.pending := s.raise_pending _

@[simp] theorem State.taken_pending (l : LinkNo) : (s.taken l).pending = s.pending := by rw [State.taken_eq]

@[simp] theorem State.tryUnlock_pending : (s.tryUnlock i).pending = s.pending := by rw [State.tryUnlock_eq]; rfl

@[simp] theorem State.freeRelease_pending : (s.freeRelease i).pending = s.pending := by
  obtain ⟨u, h⟩ := s.freeRelease_eq i
  rw [h]
  rfl

@[simp] theorem State.freeReleaseAll_pending : s.freeReleaseAll.pending = s.pending := by rw [State.freeReleaseAll_eq]

@[simp] theorem State.arbitrate_pending : s.arbitrate.pending = s.pending := by rw [State.arbitrate_eq]

@[simp] theorem State.offer_pending : (s.offer i).pending = s.pending := by rw [State.offer_eq]

@[simp] theorem State.homeRelease_pending : (s.homeRelease i).pending = s.pending := by
  unfold State.homeRelease
  dsimp only
  split
  · exact ((s.tryUnlock i).freeRelease_pending i).trans (s.tryUnlock_pending i)
  · exact s.tryUnlock_pending i

@[simp] theorem State.endCredit_pending (place : Nat) (o : CreditOutcome) :
    (s.endCredit i place o).pending = s.pending := (Ends.endCredit s i place o).pending

@[simp] theorem State.endHead_pending (o : CreditOutcome) : (s.endHead i o).pending = s.pending :=
  (State.offer_pending _ i).trans (s.endCredit_pending i 0 o)

@[simp] theorem State.withdraw_pending (cause : Cause) (which : Credit → Bool) :
    (s.withdraw i cause which).pending = s.pending := (Ends.withdraw s i cause which).pending

@[simp] theorem State.withdrawAll_pending : s.withdrawAll.pending = s.pending := by
  have key : ∀ (is : List LaneNo) (t : State),
      (is.foldl (fun t i => t.withdraw i .dayClosing Credit.notUnlocked) t).pending = t.pending := by
    intro is
    induction is with
    | nil => exact fun _ => rfl
    | cons i is ih => exact fun t => (ih _).trans (t.withdraw_pending i _ _)
  exact key _ s

@[simp] theorem State.closeIfDrained_pending : s.closeIfDrained.pending = s.pending :=
  (Ends.closeIfDrained s).pending

@[simp] theorem State.closeInService_pending : (s.closeInService i).pending = s.pending :=
  (Ends.closeInService s i).pending

@[simp] theorem State.enterFault_pending (cause : FaultCause) : (s.enterFault i cause).pending = s.pending :=
  (Ends.enterFault s i cause).pending

@[simp] theorem State.laterCause_pending (cause : FaultCause) : (s.laterCause i cause).pending = s.pending := by
  unfold State.laterCause
  split
  · rfl
  · exact State.raiseAt_pending _ i _

@[simp] theorem State.detect_pending (cause : FaultCause) : (s.detect i cause).pending = s.pending := by
  unfold State.detect
  split
  · exact s.laterCause_pending i cause
  · exact s.enterFault_pending i cause

/-! ### The return of the rotor, edges and starts -/

@[simp] theorem State.countUntagged_pending (cause : UntaggedCause) : (s.countUntagged i cause).pending = s.pending :=
  State.raiseAt_pending _ i _

@[simp] theorem State.countBackout_pending (r : Rotation) : (s.countBackout i r).pending = s.pending :=
  State.raiseAt_pending _ i _

@[simp] theorem State.countRotation_pending (left : Tracker) (r : Rotation) :
    (s.countRotation i left r).pending = s.pending := by
  unfold State.countRotation
  dsimp only
  split_ifs <;> simp

@[simp] theorem State.backoutCredit_pending (r : Rotation) : (s.backoutCredit i r).pending = s.pending := by
  unfold State.backoutCredit
  split_ifs <;> simp

@[simp] theorem State.returnHome_pending (r : Rotation) : (s.returnHome i r).pending = s.pending := by
  unfold State.returnHome
  dsimp only
  split <;> simp

@[simp] theorem State.regain_pending : s.regain.pending = s.pending := by
  unfold State.regain
  split
  · exact State.raise_pending _ _
  · rfl

@[simp] theorem State.acceptEdge_pending (k : EdgeClass) : (s.acceptEdge k).pending = s.pending :=
  (State.arbitrate_pending _).trans s.regain_pending

@[simp] theorem State.start_pending (kind : StartKind) (cause : StartCause) :
    (s.start kind cause).pending = s.pending := by
  cases kind <;> rfl

@[simp] theorem State.clearAllSent_pending (a : OutAnswer) : (s.clearAllSent a).pending = s.pending :=
  s.start_pending .cold .clearAll

@[simp] theorem State.officeSent_pending (a : OutAnswer) : (s.officeSent a).pending = s.pending := by
  unfold State.officeSent
  split
  · exact s.clearAllSent_pending a
  · rfl

@[simp] theorem State.useFiller_pending : s.useFiller.pending = s.pending := by rw [State.useFiller_eq]

@[simp] theorem State.clockOut_pending : s.clockOut.pending = s.pending := by
  unfold State.clockOut
  split
  · rfl
  · split
    · exact s.useFiller_pending
    · unfold State.clockByte
      split <;> simp

end Operations

/-! ### Requests -/

/-- A request's action leaves the waiting commands. -/
def KeepsPending (act : State → State × Answer) : Prop := ∀ s, (act s).1.pending = s.pending

theorem keepsPending_report (f : State → Answer) : KeepsPending (report f) := fun _ => rfl

theorem keepsPending_onLinkLane {l : LinkNo} {act : LaneNo → State → State × Answer}
    (h : ∀ i, KeepsPending (act i)) : KeepsPending (onLinkLane l act) := by
  intro s
  unfold onLinkLane
  split
  · exact h _ s
  · rfl

theorem keepsPending_onLane {lane : Nat} {act : LaneNo → State → State × Answer} (h : ∀ i, KeepsPending (act i)) :
    KeepsPending (onLane lane act) := by
  intro s
  unfold onLane
  split
  · exact h _ s
  · rfl

theorem keepsPending_onPass {n : Nat} {act : Pass → State → State × Answer} (h : ∀ p, KeepsPending (act p)) :
    KeepsPending (onPass n act) := by
  intro s
  unfold onPass
  split
  · rfl
  · split
    · rfl
    · exact h _ s

theorem keepsPending_grant (i : LaneNo) (p : Pass) : KeepsPending (grant i p) := by
  intro s
  unfold grant
  dsimp only
  split <;> split <;> simp

theorem keepsPending_present (pass check : Nat) (i : LaneNo) : KeepsPending (present pass check i) := by
  intro s
  unfold present
  dsimp only
  split_ifs
  · rfl
  · rfl
  · rfl
  · split
    · rfl
    · split
      · rfl
      · exact keepsPending_grant i _ s

theorem keepsPending_readEvents (l : LinkNo) : KeepsPending (readEvents l) := fun _ => rfl

theorem keepsPending_setMask (l : LinkNo) (mask : Nat) : KeepsPending (setMask l mask) := by
  intro s
  unfold setMask
  split <;> rfl

theorem keepsPending_setLevels (v : Levels) : KeepsPending (setLevels v) := by
  intro s
  unfold setLevels
  split <;> rfl

theorem keepsPending_readCounts (l : LinkNo) (selector : Nat) : KeepsPending (readCounts l selector) := by
  intro s
  unfold readCounts
  split <;> rfl

theorem keepsPending_readJournal (start count : Nat) : KeepsPending (readJournal start count) := by
  intro s
  unfold readJournal
  dsimp only
  split_ifs <;> rfl

theorem keepsPending_loadPass (n check cls days paid first last : Nat) :
    KeepsPending (loadPass n check cls days paid first last) := by
  intro s
  unfold loadPass
  split_ifs <;> rfl

theorem keepsPending_amendPass (n presence : Nat) (a : Amendment) : KeepsPending (amendPass n presence a) := by
  intro s
  unfold amendPass
  split
  · rfl
  · split
    · rfl
    · split_ifs <;> rfl

theorem keepsPending_blockPass (p : Pass) : KeepsPending (blockPass p) := by
  intro s
  unfold blockPass
  dsimp only
  split
  · rfl
  · split
    · rfl
    · split_ifs <;> simp

theorem keepsPending_unblockPass (p : Pass) : KeepsPending (unblockPass p) := by
  intro s
  unfold unblockPass
  split <;> rfl

theorem keepsPending_purgePass (p : Pass) : KeepsPending (purgePass p) := by
  intro s
  unfold purgePass
  split <;> rfl

theorem keepsPending_mergeInWindow (day : Nat) (kind : DayKind) (p : Pass) :
    KeepsPending (mergeInWindow day kind p) := by
  intro s
  unfold mergeInWindow
  split
  · rfl
  · split <;> split_ifs <;> rfl

theorem keepsPending_mergeUse (n day kind : Nat) : KeepsPending (mergeUse n day kind) := by
  intro s
  unfold mergeUse
  split
  · rfl
  · refine keepsPending_onPass (fun p s => ?_) s
    split
    · exact keepsPending_mergeInWindow _ _ p s
    · rfl

theorem keepsPending_quoteRefund (p : Pass) : KeepsPending (quoteRefund p) := by
  intro s
  unfold quoteRefund
  split <;> rfl

theorem keepsPending_settleRefund (generation : Nat) (p : Pass) : KeepsPending (settleRefund generation p) := by
  intro s
  unfold settleRefund
  split
  · rfl
  · split_ifs <;> rfl

theorem keepsPending_setTariff (cls : Nat) (x : Tariff) : KeepsPending (setTariff cls x) := by
  intro s
  unfold setTariff
  split
  · rfl
  · rfl
  · split <;> rfl

theorem keepsPending_readTariff (cls : Nat) : KeepsPending (readTariff cls) := by
  intro s
  unfold readTariff
  split <;> rfl

theorem keepsPending_setClock (time : Nat) : KeepsPending (setClock time) := by
  intro s
  unfold setClock
  split_ifs <;> rfl

@[simp] theorem State.openNow_pending (s : State) (n : Nat) : (s.openNow n).pending = s.pending := by
  unfold State.openNow
  rw [State.raise_pending, State.append_pending]
  dsimp only
  split <;> rfl

theorem keepsPending_openDay (n : Nat) : KeepsPending (openDay n) := by
  intro s
  unfold openDay
  split_ifs <;> simp

theorem keepsPending_closeDay : KeepsPending closeDay := by
  intro s
  unfold closeDay
  split
  · rfl
  · rfl
  · exact (State.closeIfDrained_pending _).trans s.withdrawAll_pending

theorem keepsPending_setLift (state : Nat) : KeepsPending (setLift state) := by
  intro s
  unfold setLift State.startLift
  split
  · rfl
  · split
    · rfl
    · split
      · dsimp only
        split <;> simp
      · rfl

theorem keepsPending_setSeats (seats : Nat) : KeepsPending (setSeats seats) := fun _ => rfl

theorem keepsPending_setPacing (mode : Nat) (settings : PacingSettings) : KeepsPending (setPacing mode settings) := by
  intro s
  unfold setPacing
  split
  · rfl
  · dsimp only
    split
    · exact State.freeReleaseAll_pending _
    · rfl

theorem keepsPending_openLane (i : LaneNo) : KeepsPending (openLane i) := by
  intro s
  unfold openLane
  dsimp only
  split
  case h_3 => exact State.raiseAt_pending _ i _
  all_goals rfl

theorem keepsPending_closeLane (i : LaneNo) : KeepsPending (closeLane i) := by
  intro s
  unfold closeLane closeLane.inService
  dsimp only
  split
  case h_1 | h_2 | h_3 | h_4 => rfl
  all_goals exact s.closeInService_pending i

theorem keepsPending_clearLane (i : LaneNo) : KeepsPending (clearLane i) := by
  intro s
  unfold clearLane
  split <;> rfl

theorem keepsPending_configureLane (config : LaneConfig) (i : LaneNo) : KeepsPending (configureLane config i) := by
  intro s
  unfold configureLane configureLane.busy
  dsimp only
  split <;> rfl

theorem keepsPending_requestAction {c : Instr} {l : LinkNo} {code tag : Nat} {act : State → State × Answer}
    (hc : requestAction c = some (l, code, tag, act)) : KeepsPending act := by
  cases c <;> cases hc
  case present => exact keepsPending_onLinkLane (keepsPending_present _ _)
  case laneStatus => exact keepsPending_onLinkLane fun _ => keepsPending_report _
  case hello => exact keepsPending_report _
  case readEvents => exact keepsPending_readEvents _
  case setMask => exact keepsPending_setMask _ _
  case setLevels => exact keepsPending_setLevels _
  case readCounts => exact keepsPending_readCounts _ _
  case readJournal => exact keepsPending_readJournal _ _
  case loadPass => exact keepsPending_loadPass _ _ _ _ _ _ _
  case amendPass => exact keepsPending_amendPass _ _ _
  case blockPass => exact keepsPending_onPass keepsPending_blockPass
  case unblockPass => exact keepsPending_onPass keepsPending_unblockPass
  case purgePass => exact keepsPending_onPass keepsPending_purgePass
  case readPass => exact keepsPending_onPass fun _ => keepsPending_report _
  case mergeUse => exact keepsPending_mergeUse _ _ _
  case quoteRefund => exact keepsPending_onPass keepsPending_quoteRefund
  case settleRefund => exact keepsPending_onPass (keepsPending_settleRefund _)
  case setTariff => exact keepsPending_setTariff _ _
  case readTariff => exact keepsPending_readTariff _
  case setClock => exact keepsPending_setClock _
  case openDay => exact keepsPending_openDay _
  case closeDay => exact keepsPending_closeDay
  case readDay => exact keepsPending_report _
  case readStart => exact keepsPending_report _
  case clearAll => exact keepsPending_report _
  case setLift => exact keepsPending_setLift _
  case setSeats => exact keepsPending_setSeats _
  case setPacing => exact keepsPending_setPacing _ _
  case readLift => exact keepsPending_report _
  case openLane => exact keepsPending_onLane keepsPending_openLane
  case closeLane => exact keepsPending_onLane keepsPending_closeLane
  case clearLane => exact keepsPending_onLane keepsPending_clearLane
  case configureLane => exact keepsPending_onLane (keepsPending_configureLane _)
  case readLane => exact keepsPending_onLane fun _ => keepsPending_report _
  case unknownRequest => exact keepsPending_report _

/-! ### Commands -/

/-- A result is a next state in which the commands of a state wait. -/
def NextWaits (s : State) (r : Result) : Prop := ∃ t, r = .next t ∧ t.pending = s.pending

section Commands
variable {s : State}

theorem nextWaits_next {t : State} (h : t.pending = s.pending) : NextWaits s (.next t) := ⟨t, rfl, h⟩

theorem nextWaits_whenRunning {event : State → State} (h : (event s).pending = s.pending) :
    NextWaits s (whenRunning s event) := by
  refine nextWaits_next ?_
  split
  · exact h
  · rfl

theorem nextWaits_takeFrame {act : State → State × Answer} (hact : KeepsPending act) (l : LinkNo) (code tag : Nat) :
    NextWaits s (takeFrame l code tag act s) := by
  have hanswered : ∀ a, (s.answered l code tag a).pending = s.pending := by simp [State.answered]
  rcases takeFrame_cases l code tag act s with
    ⟨-, e⟩ | ⟨-, -, ⟨now, -, e⟩ | ⟨-, ⟨-, e⟩ | ⟨-, -, e⟩ | ⟨-, -, e⟩⟩⟩ <;> rw [e] <;> refine nextWaits_next ?_
  · rfl
  · exact s.taken_pending l
  · exact hanswered _
  · exact hanswered _
  · rw [State.reply_pending, hact, State.taken_pending]

/-- A request, from the byte that completes its frame. -/
theorem nextWaits_runRequest (c : Instr) : NextWaits s (runRequest c s) := by
  cases hc : requestAction c with
  | none => rw [runRequest_noAction hc]; exact nextWaits_next rfl
  | some x =>
    obtain ⟨l, code, tag, act⟩ := x
    rw [runRequest_requestAction hc]
    exact nextWaits_takeFrame (keepsPending_requestAction hc) l code tag

theorem nextWaits_receiveByte (l : LinkNo) (b : Byte) : NextWaits s (receiveByte l b s) := by
  unfold receiveByte
  split
  · refine nextWaits_next ?_
    split <;> rfl
  · dsimp only
    split_ifs
    · exact nextWaits_next rfl
    · unfold completeFrame
      split
      · exact nextWaits_runRequest _
      · exact nextWaits_next rfl
    · exact nextWaits_next rfl

theorem nextWaits_byteReceived (l : LinkNo) (b : Byte) : NextWaits s (execByteReceived l b s) := by
  unfold execByteReceived
  split_ifs
  · exact nextWaits_next rfl
  · exact nextWaits_receiveByte l b
  · exact nextWaits_next s.clockOut_pending
  · obtain ⟨t, ht, hpending⟩ := nextWaits_receiveByte (s := s.clockOut) l b
    exact ⟨t, ht, hpending.trans s.clockOut_pending⟩
  · exact nextWaits_next rfl

/-! ### Events (R182) -/

theorem nextWaits_frameDiscarded (l : LinkNo) : NextWaits s (execFrameDiscarded l s) := by
  refine nextWaits_whenRunning ?_
  split <;> rfl

theorem nextWaits_byteError (l : LinkNo) : NextWaits s (execByteError l s) := by
  refine nextWaits_whenRunning ?_
  split <;> rfl

theorem nextWaits_frameGapExpiry (l : LinkNo) : NextWaits s (execFrameGapExpiry l s) := by
  refine nextWaits_whenRunning ?_
  split
  · rfl
  · split <;> rfl

theorem nextWaits_chipSelectRelease : NextWaits s (execChipSelectRelease s) :=
  nextWaits_whenRunning rfl

theorem nextWaits_answerSendBegin (l : LinkNo) : NextWaits s (execAnswerSendBegin l s) := by
  refine nextWaits_whenRunning ?_
  dsimp only
  split
  · rfl
  · split_ifs <;> rfl

theorem nextWaits_answerSent (l : LinkNo) : NextWaits s (execAnswerSent l s) := by
  refine nextWaits_whenRunning ?_
  split
  · rfl
  · split
    · rfl
    · exact s.officeSent_pending _

theorem nextWaits_rotorLeave (i : LaneNo) : NextWaits s (execRotorLeave i s) :=
  nextWaits_whenRunning rfl

theorem nextWaits_mid (i : LaneNo) : NextWaits s (execMid i s) := by
  refine nextWaits_whenRunning ?_
  dsimp only
  split_ifs
  · exact State.endHead_pending _ i _
  · rfl
  · rfl

theorem nextWaits_returnToHome (i : LaneNo) : NextWaits s (execReturnToHome i s) := by
  refine nextWaits_whenRunning ?_
  split
  · split
    · exact s.returnHome_pending i _
    · rfl
  · rfl

theorem nextWaits_beamSample (i : LaneNo) (level : Nat) : NextWaits s (execBeamSample i level s) := by
  refine nextWaits_whenRunning ?_
  dsimp only
  split
  · rfl
  · split
    · exact State.detect_pending _ i _
    · rfl

theorem nextWaits_settleExpiry (i : LaneNo) (home : Bool) : NextWaits s (execSettleExpiry i home s) := by
  refine nextWaits_whenRunning ?_
  dsimp only
  split
  · rfl
  · split
    · exact State.raiseAt_pending _ i _
    · exact State.enterFault_pending _ i _

theorem nextWaits_creditLifeExpiry (i : LaneNo) (credit : Nat) : NextWaits s (execCreditLifeExpiry i credit s) := by
  refine nextWaits_whenRunning ?_
  dsimp only
  split
  · rfl
  · split
    · exact State.endHead_pending _ i _
    · exact State.endCredit_pending _ i _ _

theorem nextWaits_unlockStart (i : LaneNo) : NextWaits s (execUnlockStart i s) := by
  refine nextWaits_whenRunning ?_
  split
  · rfl
  · split
    · exact State.tryUnlock_pending _ i
    · rfl

theorem nextWaits_unlockEnd (i : LaneNo) : NextWaits s (execUnlockEnd i s) := by
  refine nextWaits_whenRunning ?_
  split
  · rfl
  · split
    · exact State.endHead_pending _ i _
    · rfl
    · rfl

theorem nextWaits_passageLimitExpiry (i : LaneNo) : NextWaits s (execPassageLimitExpiry i s) := by
  refine nextWaits_whenRunning ?_
  dsimp only
  split
  · rfl
  · exact State.detect_pending _ i _

theorem nextWaits_silenceExpiry (i : LaneNo) : NextWaits s (execSilenceExpiry i s) := by
  refine nextWaits_whenRunning ?_
  dsimp only
  split
  · rfl
  · exact (State.raiseAt_pending _ i _).trans (State.withdraw_pending _ i _ _)

theorem nextWaits_beamBlockedExpiry (i : LaneNo) : NextWaits s (execBeamBlockedExpiry i s) := by
  refine nextWaits_whenRunning ?_
  dsimp only
  split
  · rfl
  · exact State.raiseAt_pending _ i _

theorem nextWaits_carrierEdge : NextWaits s (execCarrierEdge s) := by
  refine nextWaits_whenRunning ?_
  split
  · rfl
  · split
    · rfl
    · exact s.acceptEdge_pending _
    · exact s.acceptEdge_pending _

theorem nextWaits_lostWatchExpiry : NextWaits s (execLostWatchExpiry s) := by
  refine nextWaits_whenRunning ?_
  dsimp only
  split
  · exact State.raise_pending _ _
  · rfl

theorem nextWaits_clearAllStart : NextWaits s (execClearAllStart s) := by
  refine nextWaits_whenRunning ?_
  split
  · exact s.clearAllSent_pending _
  · rfl

theorem nextWaits_powerUp (retainOk : Bool) : NextWaits s (execPowerUp retainOk s) := by
  refine nextWaits_next ?_
  split
  case h_2 => exact s.start_pending _ _
  all_goals rfl

theorem nextWaits_resetAsserted : NextWaits s (execResetAsserted s) := by
  refine nextWaits_next ?_
  split <;> rfl

theorem nextWaits_resetReleased : NextWaits s (execResetReleased s) := by
  refine nextWaits_next ?_
  split
  case h_1 | h_2 => exact s.start_pending _ _
  all_goals rfl

theorem nextWaits_powerLoss : NextWaits s (execPowerLoss s) := by
  refine nextWaits_next ?_
  split <;> rfl

/-- A command that is no request. -/
theorem nextWaits_event {c : Instr} (hc : requestAction c = none) : NextWaits s (exec c s) := by
  cases c <;> cases hc
  case frameDiscarded => exact nextWaits_frameDiscarded _
  case byteError => exact nextWaits_byteError _
  case frameGapExpiry => exact nextWaits_frameGapExpiry _
  case chipSelectRelease => exact nextWaits_chipSelectRelease
  case answerSendBegin => exact nextWaits_answerSendBegin _
  case answerSent => exact nextWaits_answerSent _
  case rotorLeave => exact nextWaits_rotorLeave _
  case mid => exact nextWaits_mid _
  case returnToHome => exact nextWaits_returnToHome _
  case beamSample => exact nextWaits_beamSample _ _
  case settleExpiry => exact nextWaits_settleExpiry _ _
  case creditLifeExpiry => exact nextWaits_creditLifeExpiry _ _
  case unlockStart => exact nextWaits_unlockStart _
  case unlockEnd => exact nextWaits_unlockEnd _
  case passageLimitExpiry => exact nextWaits_passageLimitExpiry _
  case silenceExpiry => exact nextWaits_silenceExpiry _
  case beamBlockedExpiry => exact nextWaits_beamBlockedExpiry _
  case carrierEdge => exact nextWaits_carrierEdge
  case lostWatchExpiry => exact nextWaits_lostWatchExpiry
  case clearAllStart => exact nextWaits_clearAllStart
  case powerUp => exact nextWaits_powerUp _
  case resetAsserted => exact nextWaits_resetAsserted
  case resetReleased => exact nextWaits_resetReleased
  case powerLoss => exact nextWaits_powerLoss
  case byteReceived => exact nextWaits_byteReceived _ _

theorem nextWaits_exec (c : Instr) (s : State) : NextWaits s (exec c s) := by
  cases hc : requestAction c with
  | none => exact nextWaits_event hc
  | some x =>
    obtain ⟨l, code, tag, act⟩ := x
    rw [exec_requestAction hc]
    exact nextWaits_takeFrame (keepsPending_requestAction hc) l code tag

end Commands

/-- Settles O3: a request takes its frame or leaves it, an event reaches the part or not, and neither stops it. -/
theorem everyCommandHasANextState : Obligations.EveryCommandHasANextState := nextWaits_exec

end Sys2Proof.Machine

/-! ## RESET and power (R182) -/

namespace Sys2Proof.Machine

section Held
variable {s : State}

/-- The event of a byte, whose guard is its own and not `whenRunning`. -/
theorem execByteReceived_held (hrun : s.run ≠ .running) (l : LinkNo) (b : Byte) : execByteReceived l b s = .next s := by
  rw [execByteReceived, if_neg hrun]

/-- A part that does not run loses every request: its frame does not reach it. -/
theorem exec_request_held (hrun : s.run ≠ .running) {c : Instr} {x : LinkNo × Nat × Nat × (State → State × Answer)}
    (hc : requestAction c = some x) : exec c s = .next s := by
  obtain ⟨l, code, tag, act⟩ := x
  rw [exec_requestAction hc, takeFrame, whenRunning, if_neg hrun]

/-- A part that does not run takes no event but those of RESET and power: the others are `whenRunning`, or a byte. -/
theorem exec_event_held (hrun : s.run ≠ .running) {c : Instr} (hc : requestAction c = none) (hup : ∀ b, c ≠ .powerUp b)
    (hassert : c ≠ .resetAsserted) (hrelease : c ≠ .resetReleased) (hloss : c ≠ .powerLoss) : exec c s = .next s := by
  cases c <;> cases hc
  case powerUp b => exact absurd rfl (hup b)
  case resetAsserted => exact absurd rfl hassert
  case resetReleased => exact absurd rfl hrelease
  case powerLoss => exact absurd rfl hloss
  case byteReceived l b => exact execByteReceived_held hrun l b
  all_goals exact congrArg Host.Outcome.next (if_neg hrun)

end Held

/-! ### What the four events do in each run state -/

section Supply
variable {s : State} {b : Bool}

theorem exec_powerUp_powered (h : ∀ b, s.run ≠ .off b) (retainOk : Bool) : exec (.powerUp retainOk) s = .next s := by
  show execPowerUp retainOk s = _
  rw [execPowerUp]
  split
  case h_1 hrun | h_2 hrun => exact absurd hrun (h _)
  all_goals rfl

theorem exec_powerUp_off_asserted (h : s.run = .off true) (retainOk : Bool) :
    exec (.powerUp retainOk) s = .next { s with run := .heldPowerUp retainOk } := by
  show execPowerUp retainOk s = _
  rw [execPowerUp, h]

theorem exec_resetAsserted_running (h : s.run = .running) :
    exec .resetAsserted s = .next { s.outputsOff with run := .heldReset } := by
  show execResetAsserted s = _
  rw [execResetAsserted, h]

theorem exec_resetAsserted_off (h : s.run = .off b) : exec .resetAsserted s = .next { s with run := .off true } := by
  show execResetAsserted s = _
  rw [execResetAsserted, h]

theorem exec_resetAsserted_held (h : s.run = .heldReset ∨ ∃ b, s.run = .heldPowerUp b) :
    exec .resetAsserted s = .next s := by
  show execResetAsserted s = _
  rw [execResetAsserted]
  obtain h | ⟨b, h⟩ := h <;> rw [h]

theorem exec_resetReleased_running (h : s.run = .running) : exec .resetReleased s = .next s := by
  show execResetReleased s = _
  rw [execResetReleased, h]

theorem exec_resetReleased_off (h : s.run = .off b) : exec .resetReleased s = .next { s with run := .off false } := by
  show execResetReleased s = _
  rw [execResetReleased, h]

theorem exec_powerLoss_running (h : s.run = .running) :
    exec .powerLoss s = .next { s.outputsOff with run := .off false } := by
  show execPowerLoss s = _
  rw [execPowerLoss, h]

theorem exec_powerLoss_held (h : s.run = .heldReset ∨ ∃ b, s.run = .heldPowerUp b) :
    exec .powerLoss s = .next { s with run := .off true } := by
  show execPowerLoss s = _
  rw [execPowerLoss]
  obtain h | ⟨b, h⟩ := h <;> rw [h]

theorem exec_powerLoss_off (h : s.run = .off b) : exec .powerLoss s = .next s := by
  show execPowerLoss s = _
  rw [execPowerLoss, h]

end Supply

/-- Settles O4: each of the four events by the run state it finds, any other command as a request or as an event. -/
theorem resetAndPowerStopThePart : Obligations.ResetAndPowerStopThePart := by
  intro s quiet
  have hquiet : ∀ r, { s.outputsOff with run := r } = quiet r := fun _ => rfl
  refine ⟨fun hrun => ⟨?_, ?_, exec_resetReleased_running hrun, exec_powerUp_powered (by simp [hrun])⟩,
    fun hrun c hup hassert hrelease hloss => ?_, exec_powerUp_off_asserted,
    fun b hoff => ⟨exec_resetAsserted_off hoff, exec_resetReleased_off hoff, exec_powerLoss_off hoff⟩,
    fun hheld => ⟨exec_resetAsserted_held hheld, exec_powerLoss_held hheld, exec_powerUp_powered fun b hoff => ?_⟩⟩
  · rw [exec_resetAsserted_running hrun, hquiet]
  · rw [exec_powerLoss_running hrun, hquiet]
  · cases hc : requestAction c with
    | some x => exact exec_request_held hrun hc
    | none => exact exec_event_held hrun hc hup hassert hrelease hloss
  · simp [hoff] at hheld

end Sys2Proof.Machine

/-! ## The laws after reset -/

namespace Sys2Proof.Machine

theorem State.reset_lane (i : LaneNo) : State.reset.lane i = LaneUnit.atStart LaneConfig.cold 1 LaneCounts.zero :=
  Six.get_all _ i

theorem State.reset_link (l : LinkNo) : State.reset.link l = Endpoint.atStart := Eight.get_all _ l

/-- The reset state is steps 3 to 13 of R183 on the emptied memory. -/
theorem State.reset_eq_start : State.reset = State.reset.start .cold .powerUp := State.reset.start_cold_powerUp.symm

theorem keeps_emptied_reset : Keeps State.reset.emptied State.reset :=
  (Keeps.restart State.reset.emptied .cold .powerUp (none, 0, 0)).append (.start .cold .powerUp 0 0)

theorem tableKept_reset : State.reset.TableKept := State.reset.tableKept_emptied.congr rfl rfl

theorem creditLaw_reset : CreditLaw State.reset :=
  have hkept : State.reset.CreditsKept :=
    State.creditsKept_of_empty .nil (fun i => by rw [State.reset_lane]; rfl) fun _ hp => nomatch hp
  (State.reset.creditsKept_iff.mp hkept).2

theorem lanesLaw_reset : LanesLaw State.reset := by
  rw [State.reset_eq_start]
  exact lanesLaw_start _ _ _

/-- The record of the start is the one record held, and its number is 1 (R157, R181). -/
theorem journalLaw_reset : JournalLaw State.reset where
  held := List.cons_ne_nil _ _
  fits := by decide
  next := by decide
  seqs := by decide

theorem attentionLaw_reset : AttentionLaw State.reset :=
  (attentionLaw_iff_decided rfl).mpr fun l => by
    rw [State.reset_link]
    exact Endpoint.decided_atStart _ l

theorem linksLaw_reset : LinksLaw State.reset := fun l => by
  rw [State.reset_link]
  exact endpointLaw_atStart l

/-- Settles O53: the laws of the emptied memory are kept by the start on it, and a start leaves lanes and links that
have theirs. -/
theorem resetKeepsEveryLaw : Obligations.ResetKeepsEveryLaw := by
  obtain ⟨hpool, hrecords⟩ := State.reset.tableKept_iff.mp tableKept_reset
  obtain ⟨hday, hbalance⟩ :=
    keeps_emptied_reset.days ⟨dayLaw_emptied State.reset, balanceLaw_emptied State.reset⟩
  have hrange : RangeLaw State.reset := keeps_emptied_reset.ranges (rangeLaw_emptied State.reset)
  exact ⟨hpool, hrecords, creditLaw_reset, lanesLaw_reset, hday, hbalance, pacerLaw_cold, journalLaw_reset,
    attentionLaw_reset, linksLaw_reset, hrange⟩

end Sys2Proof.Machine
